-- ==== Sys2Proof/Word.lean ====
section
/-! DEFINITION. The words of the LSAV command framer: bytes, 16-bit slots, and the names of its two units. -/

namespace Sys2Proof

/-- One input byte, also the width of every count and of both checksum accumulators (00_scope R8). -/
abbrev Byte := BitVec 8

/-- One 16-bit element of the range buffer, a LED index (00_scope R8, R12). -/
abbrev Slot := BitVec 16

/-- The two hardware agents of the block (60_exceptions R114). -/
inductive UnitId where
  /-- The packet framer, PF. -/
  | pf
  /-- The group-setup framer, GF. -/
  | gf
deriving DecidableEq, Repr

end Sys2Proof
end

