-- ==== Sys2Proof/Config.lean ====
section
/-! DEFINITION. What is fixed when the hardware is built (10_state R14), and the values the spec leaves free. -/

namespace Sys2Proof.Config

/-- START_BYTE (00_scope R5), a named constant (log entry 12). -/
def startByte : Byte := 0xFE

/-- END_BYTE (00_scope R5), a named constant (log entry 12). -/
def endByte : Byte := 0xFF

/-- The build-time parameters of the two units (00_scope R6, R7). -/
structure Params where
  /-- BYTES_PER_PACKET, BPP: payload bytes in each packet (R6). -/
  bpp : Nat
  /-- GROUPS_EXPECTED, G: groups in each group-setup message (R7). -/
  groups : Nat
deriving DecidableEq, Repr

/-- The parameter values a build accepts: BPP at least 1 (R6), G from 1 to 255 (R7, R123). -/
abbrev Params.legal (c : Params) : Prop := 1 ≤ c.bpp ∧ 1 ≤ c.groups ∧ c.groups ≤ 255

/-- A build: an illegal parameter is refused and no hardware exists (R6, R7, R123). -/
def Params.build (bpp groups : Nat) : Option Params :=
  if (⟨bpp, groups⟩ : Params).legal then some ⟨bpp, groups⟩ else none

/-- BPP less 1: open (R6), so no value is given (log entry 1). -/
opaque bppLessOne : Nat

/-- G less 1: open between 0 and 254 (R7), so no value is given (log entry 1). -/
opaque groupsLessOne : Fin 255

/-- The parameters of the hardware that `step` runs: legal, and otherwise unknown (R6, R7; log entry 1). -/
@[irreducible] def params : Params := { bpp := bppLessOne + 1, groups := groupsLessOne.val + 1 }

/-- `pf_rd_data` where R104 leaves it unspecified: any byte, after `tick` edges and at address `addr`
(R104, R42; log entry 4). -/
opaque pfRdDataFree (tick addr : Nat) : Byte

/-- `gf_rd_data` where R104 leaves it unspecified: any slot value (R104, R42; log entry 4). -/
opaque gfRdDataFree (tick addr : Nat) : Slot

/-- `pf_evt_count` while no event is pending: any byte (R102; log entry 4). -/
opaque pfEvtCountFree (tick : Nat) : Byte

/-- `gf_evt_count` while no event is pending: any byte (R102; log entry 4). -/
opaque gfEvtCountFree (tick : Nat) : Byte

/-- `gf_evt_group_index` while no event is pending: any byte (R102; log entry 4). -/
opaque gfEvtGroupIndexFree (tick : Nat) : Byte

end Sys2Proof.Config
end

