-- ==== Sys2Proof/Syntax.lean ====
section
/-! DEFINITION. The instructions: one constructor per row of spec/opcode_table.json. -/

namespace Sys2Proof

/-- A transition of a unit (30_encoding R57) or a port operation (43_control).
A byte whose value the row fixes is no operand: the constructor stands for it. Every other transition carries the byte
it consumes. A port operation names the unit it acts on. -/
inductive Instr where
  /-- PF.START (R69): the start marker 0xFE. -/
  | pfStart
  /-- PF.NOISE (R70): any other byte while awaiting the start marker. -/
  | pfNoise (b : Byte)
  /-- PF.COUNT_ZERO (R71): the packet count 0. -/
  | pfCountZero
  /-- PF.COUNT (R72): a packet count of 1 to 255. -/
  | pfCount (b : Byte)
  /-- PF.PAYLOAD (R73): a payload byte that is not the last of its packet. -/
  | pfPayload (b : Byte)
  /-- PF.PAYLOAD_LAST (R74): the last payload byte of a packet. -/
  | pfPayloadLast (b : Byte)
  /-- PF.CHK_FAIL (R75): a checksum byte that does not match. -/
  | pfChkFail (b : Byte)
  /-- PF.CHK_NEXT (R76): a matching checksum, more packets follow. -/
  | pfChkNext (b : Byte)
  /-- PF.CHK_LAST (R77): a matching checksum on the last packet. -/
  | pfChkLast (b : Byte)
  /-- PF.END (R78): the end marker 0xFF. -/
  | pfEnd
  /-- PF.END_NOISE (R79): any other byte while awaiting the end marker. -/
  | pfEndNoise (b : Byte)
  /-- GF.START (R82): the start marker 0xFE. -/
  | gfStart
  /-- GF.NOISE (R83): any other byte while awaiting the start marker. -/
  | gfNoise (b : Byte)
  /-- GF.RCOUNT_ZERO (R84): the range count 0. -/
  | gfRcountZero
  /-- GF.RCOUNT (R85): a range count of 1 to 255. -/
  | gfRcount (b : Byte)
  /-- GF.START_LO (R86): the low byte of start_led. -/
  | gfStartLo (b : Byte)
  /-- GF.START_HI (R87): the high byte of start_led. -/
  | gfStartHi (b : Byte)
  /-- GF.END_LO (R88): the low byte of end_led. -/
  | gfEndLo (b : Byte)
  /-- GF.END_HI (R89): the high byte of end_led. -/
  | gfEndHi (b : Byte)
  /-- GF.CHK_FAIL (R90): a checksum byte that does not match. -/
  | gfChkFail (b : Byte)
  /-- GF.CHK_RANGE_NEXT (R91): a matching checksum, more ranges of the group follow. -/
  | gfChkRangeNext (b : Byte)
  /-- GF.CHK_GROUP_NEXT (R92): a matching checksum that completes a group, more groups follow. -/
  | gfChkGroupNext (b : Byte)
  /-- GF.CHK_GROUP_LAST (R93): a matching checksum that completes the last group. -/
  | gfChkGroupLast (b : Byte)
  /-- GF.END (R94): the end marker 0xFF. -/
  | gfEnd
  /-- GF.END_NOISE (R95): any other byte while awaiting the end marker. -/
  | gfEndNoise (b : Byte)
  /-- GF.TERM (R96): any byte in Terminal. -/
  | gfTerm (b : Byte)
  /-- RESET (R99): `rst` = 1 at a rising edge, for one unit. -/
  | reset (u : UnitId)
  /-- EVT_ACK (R103): `evt_ready` = 1 at a rising edge while the unit's event is pending. -/
  | evtAck (u : UnitId)
  /-- RD (R104): the consumer reads payload index `addr` at the unit's read port. -/
  | rd (u : UnitId) (addr : Nat)
deriving DecidableEq, Repr

end Sys2Proof
end

