-- ==== Sys2Proof/Machine/State.lean ====
section
/-! DEFINITION. The state of the two units and of the model's host side, as plain data, and the state after reset. -/

namespace Sys2Proof.Machine

/-- `pf.st`, the PF control state: the five named values (10_state R16) and the three codes 5, 6, 7 that the 3-bit state
register can hold and R27 leaves unused (R28). `unused n` is code 5 + n. -/
inductive PfSt where
  | awaitStart
  | awaitCount
  | awaitPacketByte
  | awaitChecksum
  | awaitEnd
  | unused (n : Fin 3)
deriving DecidableEq, Repr

/-- `gf.st`, the GF control state: the nine named values (10_state R20) and the seven codes 9 to 15 that the 4-bit state
register can hold and R27 leaves unused (R28). `unused n` is code 9 + n. -/
inductive GfSt where
  | awaitStart
  | awaitRangeCount
  | awaitStartLow
  | awaitStartHigh
  | awaitEndLow
  | awaitEndHigh
  | awaitChecksum
  | awaitEnd
  | terminal
  | unused (n : Fin 7)
deriving DecidableEq, Repr

/-- A buffer with elements of `w` bits, as the list of the elements that hold a value, by rising index. An index not in
the list holds no value: it is unspecified (10_state R24; log entry 6). -/
abbrev Memory (w : Nat) := List (Nat × BitVec w)

/-- The PF unit (10_state R16 to R19). -/
structure PfState where
  /-- `pf.st`, the control state (R16). -/
  st : PfSt
  /-- `pf.n`, the packet count of the current message (R17). -/
  n : Byte
  /-- `pf.rem`, the remaining-packet counter (R17). -/
  rem : Byte
  /-- `pf.cur`, the write cursor (R17), as a number that wraps at the register's width (log entry 7). -/
  cur : Nat
  /-- `pf.acc`, the running checksum (R17). -/
  acc : Byte
  /-- `PBUF`, the packet buffer (R18). -/
  pbuf : Memory 8
  /-- `pf.ev_valid`, the event-pending flag (R19). -/
  evValid : Bool
  /-- `pf.ev_n`, the packet count the event reports (R19). -/
  evN : Byte
deriving DecidableEq, Repr

/-- The GF unit (10_state R20 to R23). -/
structure GfState where
  /-- `gf.st`, the control state (R20). -/
  st : GfSt
  /-- `gf.r`, the range count of the current group (R21). -/
  r : Byte
  /-- `gf.k`, the received-range counter (R21). -/
  k : Byte
  /-- `gf.lo`, the low-byte latch (R21). -/
  lo : Byte
  /-- `gf.acc`, the running checksum (R21). -/
  acc : Byte
  /-- `gf.grp`, the groups completed in the current message (R21). -/
  grp : Byte
  /-- `RBUF`, the range buffer (R22). -/
  rbuf : Memory 16
  /-- `gf.ev_valid`, the event-pending flag (R23). -/
  evValid : Bool
  /-- `gf.ev_r`, the range count the event reports (R23). -/
  evR : Byte
  /-- `gf.ev_gi`, the group index the event reports (R23). -/
  evGi : Byte
deriving DecidableEq, Repr

/-- One unit's input ports at a rising edge (43_control R97). -/
structure PortIn where
  /-- `rst`: synchronous reset, active high. -/
  rst : Bool
  /-- `in_valid`: the transport offers a byte. -/
  inValid : Bool
  /-- `in_data`: the offered byte. -/
  inData : Byte
  /-- `evt_ready`: the consumer takes the pending event at this edge. -/
  evtReady : Bool
deriving DecidableEq, Repr

/-- What the host side does next (60_exceptions R119; log entry 2). -/
inductive HostAct where
  /-- A rising edge of the shared clock, with each unit's inputs at that edge (R97, R98). -/
  | edge (pf gf : PortIn)
  /-- Between edges, the consumer puts `addr` on a unit's `rd_addr` and samples `rd_data` (R104; log entry 15). -/
  | read (u : UnitId) (addr : Nat)
deriving DecidableEq, Repr

/-- Why the machine could stop with a fault: never. The block raises no exception, and no byte in any state makes a unit
trap or halt (60_exceptions R107), so there is no reason to name. -/
inductive Fault where
deriving DecidableEq, Repr

/-- Why the model could give no next state. -/
inductive Refusal where
  /-- Raised by an arm of `exec` for an instruction that has no meaning yet. Safe: the model stops where the hardware goes
  on. No arm raises it. -/
  | notModelled (mnemonic : String)
deriving DecidableEq, Repr

/-- The whole machine: the block's state (10_state R33) and the model's own fields. -/
structure State where
  /-- The PF unit. -/
  pf : PfState
  /-- The GF unit. -/
  gf : GfState
  /-- MODEL's own: what the host side does next, oldest first (log entry 2). -/
  host : List HostAct
  /-- MODEL's own: the rising edges so far, read only as the argument of free values (log entry 4). -/
  tick : Nat
  /-- MODEL's own: what the consumer last sampled on `pf_rd_data` (log entry 5). -/
  pfRd : Byte
  /-- MODEL's own: what the consumer last sampled on `gf_rd_data` (log entry 5). -/
  gfRd : Slot
deriving DecidableEq, Repr

/-- The PF unit after a reset edge (10_state R33, 43_control R99). -/
def PfState.reset : PfState :=
  { st := .awaitStart, n := 0, rem := 0, cur := 0, acc := 0, pbuf := [], evValid := false, evN := 0 }

/-- The GF unit after a reset edge (10_state R33, 43_control R99). -/
def GfState.reset : GfState :=
  { st := .awaitStart, r := 0, k := 0, lo := 0, acc := 0, grp := 0, rbuf := [], evValid := false, evR := 0, evGi := 0 }

/-- The machine right after both units' reset (10_state R33); the model's own fields are empty or 0 (DESIGN CHOICE, log
entries 2, 4 and 5). -/
def State.reset : State :=
  { pf := PfState.reset, gf := GfState.reset, host := [], tick := 0, pfRd := 0, gfRd := 0 }

end Sys2Proof.Machine
end

