-- ==== Sys2Proof/Machine/Ops.lean ====
section
/-! DEFINITION. The named operations over the buffers and the units' registers that the meanings share. -/

namespace Sys2Proof.Machine

open Sys2Proof.Config

/-! ### Sizes derived from the parameters -/

/-- The capacity of PBUF, 255 × BPP bytes (00_scope R8, 10_state R18). -/
def pbufCap (c : Params) : Nat := 255 * c.bpp

/-- The capacity of RBUF, 510 slots (00_scope R8, 10_state R22). -/
def rbufCap : Nat := 510

/-- ⌈log2 x⌉, and 0 for x ≤ 1: the formula of the widths in R17 and R97. -/
def clog2 (x : Nat) : Nat := if x ≤ 1 then 0 else Nat.log2 (x - 1) + 1

/-- The width of `pf.cur`, ⌈log2(255·BPP+1)⌉ (10_state R17). -/
def curWidth (c : Params) : Nat := clog2 (255 * c.bpp + 1)

/-- The width of a unit's `rd_addr`: AWP = max(1, ⌈log2(255·BPP)⌉) for PF, 9 for GF (43_control R97). -/
def rdAddrWidth (c : Params) : UnitId → Nat
  | .pf => max 1 (clog2 (255 * c.bpp))
  | .gf => 9

/-! ### Buffers -/

/-- BufRead (00_scope R10): the element at an index, `none` where it holds no value (10_state R24). -/
def Memory.read {w : Nat} : Memory w → Nat → Option (BitVec w)
  | [], _ => none
  | (j, v) :: m, i => if i = j then some v else Memory.read m i

/-- Puts a value at an index, keeping the indices rising. -/
def Memory.insert {w : Nat} : Memory w → Nat → BitVec w → Memory w
  | [], i, v => [(i, v)]
  | (j, x) :: m, i, v =>
    if i < j then (i, v) :: (j, x) :: m
    else if i = j then (i, v) :: m
    else (j, x) :: Memory.insert m i v

/-- BufWrite (00_scope R10) into a buffer of `cap` elements: an index above the valid range cannot be written
(20_memory R43; log entry 6). -/
def Memory.write {w : Nat} (cap : Nat) (m : Memory w) (i : Nat) (v : BitVec w) : Memory w :=
  if i < cap then m.insert i v else m

/-- Every element unspecified (10_state R24). -/
def Memory.unspecified (w : Nat) : Memory w := []

/-- The canonical form of a buffer of `cap` elements: indices strictly rising, all of them valid. An unlisted index holds
no value, so no entry can equal what an unlisted index reads as. -/
def Memory.wf {w : Nat} (cap : Nat) : Memory w → Bool
  | [] => true
  | (i, _) :: m => decide (i < cap) && (m.all fun p => decide (i < p.1)) && Memory.wf cap m

/-! ### The checksum accumulator -/

/-- ACC_LOAD (40_datapath R63): the accumulator takes the byte. -/
def accLoad (v : Byte) : Byte := v

/-- ACC_ADD (40_datapath R63): addition modulo 256, with no carry kept. -/
def accAdd (acc b : Byte) : Byte := acc + b

/-! ### The PF unit -/

/-- `st <- S` (00_scope R10). -/
def PfState.setSt (u : PfState) (st : PfSt) : PfState := { u with st := st }

/-- What a packet count byte does to the datapath (41_packet_framer R71, R72): n and rem take it, the cursor and the
checksum restart, and every PBUF element becomes unspecified (10_state R24). -/
def PfState.loadCount (u : PfState) (b : Byte) : PfState :=
  { u with n := b, rem := b, cur := 0, acc := accLoad 0, pbuf := Memory.unspecified 8 }

/-- The cursor after one payload byte, in a register of `curWidth` bits (R17, R73; log entry 7). -/
def curNext (c : Params) (cur : Nat) : Nat := (cur + 1) % 2 ^ curWidth c

/-- What a payload byte does to the datapath (41_packet_framer R73, R74): it is stored at the cursor, the cursor advances,
and ACC_ADD adds it to the checksum (40_datapath R63). -/
def PfState.storePayload (c : Params) (u : PfState) (b : Byte) : PfState :=
  { u with pbuf := u.pbuf.write (pbufCap c) u.cur b, cur := curNext c u.cur, acc := accAdd u.acc b }

/-- A matching checksum with more packets to come (R76): rem − 1, and the next packet's checksum starts at 0. -/
def PfState.nextPacket (u : PfState) : PfState := { u with rem := u.rem - 1, acc := accLoad 0 }

/-- A matching checksum on the last packet (R77): rem and acc become 0. -/
def PfState.lastPacket (u : PfState) : PfState := { u with rem := 0, acc := accLoad 0 }

/-- The checksum abort of the PF (R75, 60_exceptions R108): back to AwaitStart, nothing recorded, nothing else changed. It
stands where another hardware takes an exception (R112). -/
def PfState.abort (u : PfState) : PfState := { u with st := .awaitStart }

/-- A unit that holds an unused code returns to AwaitStart (10_state R28). -/
def PfState.recover (u : PfState) : PfState :=
  match u.st with
  | .unused _ => { u with st := .awaitStart }
  | _ => u

/-! ### The GF unit -/

/-- `st <- S` (00_scope R10). -/
def GfState.setSt (u : GfState) (st : GfSt) : GfState := { u with st := st }

/-- What a range count byte does to the datapath (42_group_framer R84, R85): r takes it, k restarts, ACC_LOAD(R) loads the
checksum, and every RBUF slot becomes unspecified (10_state R24). -/
def GfState.loadRangeCount (u : GfState) (b : Byte) : GfState :=
  { u with r := b, k := 0, acc := accLoad b, rbuf := Memory.unspecified 16 }

/-- PAIR_HIGH (40_datapath R66): the 16-bit value of a high byte and the latched low byte. -/
def pairHigh (hi lo : Byte) : Slot := (hi.zeroExtend 16 <<< 8) ||| lo.zeroExtend 16

/-- A low byte (R86, R88): PAIR_LOW latches it (40_datapath R66), ACC_ADD adds it. -/
def GfState.takeLow (u : GfState) (b : Byte) : GfState := { u with lo := b, acc := accAdd u.acc b }

/-- A high byte (R87, R89): PAIR_HIGH writes the whole slot `i` (40_datapath R66), ACC_ADD adds the byte. -/
def GfState.takeHigh (u : GfState) (i : Nat) (b : Byte) : GfState :=
  { u with rbuf := u.rbuf.write rbufCap i (pairHigh b u.lo), acc := accAdd u.acc b }

/-- The slot of the start index of the range in progress, 2k (20_memory R36). -/
def GfState.startSlot (u : GfState) : Nat := 2 * u.k.toNat

/-- The slot of the end index of the range in progress, 2k + 1 (20_memory R36). -/
def GfState.endSlot (u : GfState) : Nat := 2 * u.k.toNat + 1

/-- A matching checksum with more ranges of the group to come (R91): k + 1, and ACC_LOAD(R). -/
def GfState.nextRange (u : GfState) : GfState := { u with k := u.k + 1, acc := accLoad u.r }

/-- The checksum abort of the GF (R90, 60_exceptions R108): the whole message is dropped, grp restarts at 0, nothing is
recorded. It stands where another hardware takes an exception (R112). -/
def GfState.abort (u : GfState) : GfState := { u with grp := 0, st := .awaitStart }

/-- A unit that holds an unused code returns to AwaitStart, with grp cleared (10_state R28). -/
def GfState.recover (u : GfState) : GfState :=
  match u.st with
  | .unused _ => { u with st := .awaitStart, grp := 0 }
  | _ => u

/-! ### The machine -/

/-- Replaces the PF unit. -/
def State.setPf (s : State) (u : PfState) : State := { s with pf := u }

/-- Replaces the GF unit. -/
def State.setGf (s : State) (u : GfState) : State := { s with gf := u }

/-- Records what the consumer sampled on `pf_rd_data` (log entry 5). -/
def State.setPfRd (s : State) (v : Byte) : State := { s with pfRd := v }

/-- Records what the consumer sampled on `gf_rd_data` (log entry 5). -/
def State.setGfRd (s : State) (v : Slot) : State := { s with gfRd := v }

end Sys2Proof.Machine
end

