-- ==== Sys2Proof/Machine/Flags.lean ====
section
/-! DEFINITION. The block's only flags, the two event-pending flags (10_state R25), and the handshake that reads them. -/

namespace Sys2Proof.Machine

/-- PF.END sets the event pending (41_packet_framer R78, 43_control R102): ev_valid <- 1, ev_n <- n. -/
def PfState.raiseEom (u : PfState) : PfState := { u with evValid := true, evN := u.n }

/-- A completed group (42_group_framer R92, R93; 43_control R102): k + 1, ev_valid <- 1, ev_r <- r, ev_gi <- grp with the
value of grp before the step, and grp + 1. -/
def GfState.raiseGrp (u : GfState) : GfState :=
  { u with k := u.k + 1, evValid := true, evR := u.r, evGi := u.grp, grp := u.grp + 1 }

/-- The acknowledge of the PF's event (43_control R103): ev_valid <- 0 and nothing else. -/
def PfState.ack (u : PfState) : PfState := { u with evValid := false }

/-- The acknowledge of the GF's event (43_control R103): ev_valid <- 0 and nothing else. -/
def GfState.ack (u : GfState) : GfState := { u with evValid := false }

/-- `pf_in_ready` = NOT ev_valid (43_control R101). -/
def PfState.inReady (u : PfState) : Bool := !u.evValid

/-- `gf_in_ready` = NOT ev_valid (43_control R101). -/
def GfState.inReady (u : GfState) : Bool := !u.evValid

end Sys2Proof.Machine
end

