-- ==== Sys2Proof/Machine/Operands.lean ====
section
/-! DEFINITION. Operands and results as the ports show them: payload elements and events, the read port, the status codes,
and the modulo-256 sum. -/

namespace Sys2Proof.Machine

open Sys2Proof.Config

/-- `sum8` (00_scope R9): the sum of a list of bytes modulo 256. -/
def sum8 (bs : List Byte) : Byte := bs.foldl (· + ·) 0

/-- Elements `a` to `a + len − 1` of a buffer, each `none` where it holds no value. -/
def Memory.slice {w : Nat} (m : Memory w) (a len : Nat) : List (Option (BitVec w)) :=
  (List.range len).map fun i => m.read (a + i)

/-- The end-of-message event (43_control R102): the payload and the packet count. -/
structure Eom where
  payload : List (Option Byte)
  count : Byte
deriving DecidableEq, Repr

/-- The group-received event (43_control R102): the slots, the range count and the group index. -/
structure Grp where
  ranges : List (Option Slot)
  count : Byte
  groupIndex : Byte
deriving DecidableEq, Repr

/-- The payload length L of the PF's pending event, N·BPP (43_control R104). -/
def PfState.payloadLen (c : Params) (u : PfState) : Nat := u.evN.toNat * c.bpp

/-- The payload length L of the GF's pending event, 2R (43_control R104). -/
def GfState.payloadLen (u : GfState) : Nat := 2 * u.evR.toNat

/-- The event the PF presents (43_control R102), if one is pending. -/
def PfState.pending (c : Params) (u : PfState) : Option Eom :=
  if u.evValid then some { payload := u.pbuf.slice 0 (u.payloadLen c), count := u.evN } else none

/-- The event the GF presents (43_control R102), if one is pending. -/
def GfState.pending (u : GfState) : Option Grp :=
  if u.evValid then some { ranges := u.rbuf.slice 0 u.payloadLen, count := u.evR, groupIndex := u.evGi } else none

/-- `pf_rd_data` at address `a` where R104 defines it: an event is pending and `a` is below the payload length. -/
def PfState.rdData? (c : Params) (u : PfState) (a : Nat) : Option Byte :=
  if u.evValid && decide (a < u.payloadLen c) then u.pbuf.read a else none

/-- `gf_rd_data` at address `a` where R104 defines it: an event is pending and `a` is below the payload length. -/
def GfState.rdData? (u : GfState) (a : Nat) : Option Slot :=
  if u.evValid && decide (a < u.payloadLen) then u.rbuf.read a else none

/-- The code of a PF control state (10_state R27). -/
def PfSt.code : PfSt → BitVec 3
  | .awaitStart => 0
  | .awaitCount => 1
  | .awaitPacketByte => 2
  | .awaitChecksum => 3
  | .awaitEnd => 4
  | .unused n => BitVec.ofNat 3 (5 + n.val)

/-- The code of a GF control state (10_state R27). -/
def GfSt.code : GfSt → BitVec 4
  | .awaitStart => 0
  | .awaitRangeCount => 1
  | .awaitStartLow => 2
  | .awaitStartHigh => 3
  | .awaitEndLow => 4
  | .awaitEndHigh => 5
  | .awaitChecksum => 6
  | .awaitEnd => 7
  | .terminal => 8
  | .unused n => BitVec.ofNat 4 (9 + n.val)

/-- The PF control state as a byte's selection reads it: an unused code is AwaitStart (10_state R28). -/
def PfSt.effective : PfSt → PfSt
  | .unused _ => .awaitStart
  | .awaitStart => .awaitStart
  | .awaitCount => .awaitCount
  | .awaitPacketByte => .awaitPacketByte
  | .awaitChecksum => .awaitChecksum
  | .awaitEnd => .awaitEnd

/-- The GF control state as a byte's selection reads it: an unused code is AwaitStart (10_state R28). -/
def GfSt.effective : GfSt → GfSt
  | .unused _ => .awaitStart
  | .awaitStart => .awaitStart
  | .awaitRangeCount => .awaitRangeCount
  | .awaitStartLow => .awaitStartLow
  | .awaitStartHigh => .awaitStartHigh
  | .awaitEndLow => .awaitEndLow
  | .awaitEndHigh => .awaitEndHigh
  | .awaitChecksum => .awaitChecksum
  | .awaitEnd => .awaitEnd
  | .terminal => .terminal

/-- Whether the code is one of the named states (10_state R27). -/
def PfSt.used : PfSt → Bool
  | .unused _ => false
  | .awaitStart => true
  | .awaitCount => true
  | .awaitPacketByte => true
  | .awaitChecksum => true
  | .awaitEnd => true

/-- Whether the code is one of the named states (10_state R27). -/
def GfSt.used : GfSt → Bool
  | .unused _ => false
  | .awaitStart => true
  | .awaitRangeCount => true
  | .awaitStartLow => true
  | .awaitStartHigh => true
  | .awaitEndLow => true
  | .awaitEndHigh => true
  | .awaitChecksum => true
  | .awaitEnd => true
  | .terminal => true

end Sys2Proof.Machine
end

