-- ==== Sys2Proof/Machine/Ports.lean ====
section
/-! DEFINITION. The output ports (43_control R97) as functions of the state. An output the spec leaves unspecified is a
free value of Config (log entry 4). -/

namespace Sys2Proof.Machine

open Sys2Proof.Config

/-- `pf_in_ready` (R101). -/
def State.pfInReady (s : State) : Bool := s.pf.inReady

/-- `gf_in_ready` (R101). -/
def State.gfInReady (s : State) : Bool := s.gf.inReady

/-- `pf_evt_valid` (R102). -/
def State.pfEvtValid (s : State) : Bool := s.pf.evValid

/-- `gf_evt_valid` (R102). -/
def State.gfEvtValid (s : State) : Bool := s.gf.evValid

/-- `pf_evt_count` (R102): N of the pending event. -/
def State.pfEvtCount (s : State) : Byte := if s.pf.evValid then s.pf.evN else pfEvtCountFree s.tick

/-- `gf_evt_count` (R102): R of the pending event. -/
def State.gfEvtCount (s : State) : Byte := if s.gf.evValid then s.gf.evR else gfEvtCountFree s.tick

/-- `gf_evt_group_index` (R102): the group index of the pending event. -/
def State.gfEvtGroupIndex (s : State) : Byte := if s.gf.evValid then s.gf.evGi else gfEvtGroupIndexFree s.tick

/-- `pf_rd_data` at `rd_addr` = `a` (R104). -/
def State.pfRdData (s : State) (a : Nat) : Byte := (s.pf.rdData? params a).getD (pfRdDataFree s.tick a)

/-- `gf_rd_data` at `rd_addr` = `a` (R104). -/
def State.gfRdData (s : State) (a : Nat) : Slot := (s.gf.rdData? a).getD (gfRdDataFree s.tick a)

/-- `pf_status_state` (R105, 10_state R27). -/
def State.pfStatus (s : State) : BitVec 3 := s.pf.st.code

/-- `gf_status_state` (R105, 10_state R27). -/
def State.gfStatus (s : State) : BitVec 4 := s.gf.st.code

end Sys2Proof.Machine
end

