-- ==== Sys2Proof/WellFormed.lean ====
section
/-! DEFINITION. Which terms of Instr some byte or port input stands for. -/

namespace Sys2Proof

open Sys2Proof.Config Sys2Proof.Machine

/-- The byte condition of a row of 30_encoding R57, and the width of a read address (43_control R97). A row whose byte is
"any", or is compared with a register, admits every byte. -/
def Instr.wf (c : Params) : Instr → Bool
  | .pfStart => true
  | .pfNoise b => b ≠ startByte
  | .pfCountZero => true
  | .pfCount b => b ≠ 0
  | .pfPayload _ => true
  | .pfPayloadLast _ => true
  | .pfChkFail _ => true
  | .pfChkNext _ => true
  | .pfChkLast _ => true
  | .pfEnd => true
  | .pfEndNoise b => b ≠ endByte
  | .gfStart => true
  | .gfNoise b => b ≠ startByte
  | .gfRcountZero => true
  | .gfRcount b => b ≠ 0
  | .gfStartLo _ => true
  | .gfStartHi _ => true
  | .gfEndLo _ => true
  | .gfEndHi _ => true
  | .gfChkFail _ => true
  | .gfChkRangeNext _ => true
  | .gfChkGroupNext _ => true
  | .gfChkGroupLast _ => true
  | .gfEnd => true
  | .gfEndNoise b => b ≠ endByte
  | .gfTerm _ => true
  | .reset _ => true
  | .evtAck _ => true
  | .rd u a => a < 2 ^ rdAddrWidth c u

end Sys2Proof
end

