-- ==== Sys2Proof/Decode.lean ====
section
/-! DEFINITION. The selection of a unit's operation at an edge (43_control R98) and of the transition a byte performs
(30_encoding R57); the encoder; and the rows of R57 as a table of conditions. -/

namespace Sys2Proof

open Sys2Proof.Config Sys2Proof.Machine

/-! ### The decoder -/

/-- The transition the PF performs on a byte (30_encoding R57). Total: every byte in every state is one row (R58). An
unused state code selects as AwaitStart (10_state R28). -/
def decodePfByte (c : Params) (u : PfState) (b : Byte) : Instr :=
  match u.st with
  | .awaitCount => if b = 0 then .pfCountZero else .pfCount b
  | .awaitPacketByte => if (u.cur + 1) % c.bpp = 0 then .pfPayloadLast b else .pfPayload b
  | .awaitChecksum =>
    if b = u.acc then (if 2 ≤ u.rem.toNat then .pfChkNext b else .pfChkLast b) else .pfChkFail b
  | .awaitEnd => if b = endByte then .pfEnd else .pfEndNoise b
  | .awaitStart => if b = startByte then .pfStart else .pfNoise b
  | .unused _ => if b = startByte then .pfStart else .pfNoise b

/-- The transition the GF performs on a byte (30_encoding R57). Total: every byte in every state is one row (R58). An
unused state code selects as AwaitStart (10_state R28). The sums k + 1 and grp + 1 are taken as integers (log entry 7). -/
def decodeGfByte (c : Params) (u : GfState) (b : Byte) : Instr :=
  match u.st with
  | .awaitRangeCount => if b = 0 then .gfRcountZero else .gfRcount b
  | .awaitStartLow => .gfStartLo b
  | .awaitStartHigh => .gfStartHi b
  | .awaitEndLow => .gfEndLo b
  | .awaitEndHigh => .gfEndHi b
  | .awaitChecksum =>
    if b = u.acc then
      (if u.k.toNat + 1 < u.r.toNat then .gfChkRangeNext b
       else if u.grp.toNat + 1 < c.groups then .gfChkGroupNext b
       else .gfChkGroupLast b)
    else .gfChkFail b
  | .awaitEnd => if b = endByte then .gfEnd else .gfEndNoise b
  | .terminal => .gfTerm b
  | .awaitStart => if b = startByte then .gfStart else .gfNoise b
  | .unused _ => if b = startByte then .gfStart else .gfNoise b

/-- What the PF does at a rising edge, in the priority order of 43_control R98: reset, acknowledge, byte. `none`: nothing
is driven, or a byte is offered while `in_ready` = 0 and is not accepted (R100, R101). -/
def decodePf (c : Params) (u : PfState) (p : PortIn) : Option Instr :=
  if p.rst then some (.reset .pf)
  else if u.evValid && p.evtReady then some (.evtAck .pf)
  else if p.inValid && u.inReady then some (decodePfByte c u p.inData)
  else none

/-- What the GF does at a rising edge, in the priority order of 43_control R98. -/
def decodeGf (c : Params) (u : GfState) (p : PortIn) : Option Instr :=
  if p.rst then some (.reset .gf)
  else if u.evValid && p.evtReady then some (.evtAck .gf)
  else if p.inValid && u.inReady then some (decodeGfByte c u p.inData)
  else none

/-- The instructions one host action makes the block perform, each unit's read from the state before the edge: at most one
per unit (R98), the PF's listed first (log entry 3). -/
def decode (c : Params) (s : State) : HostAct → List Instr
  | .edge p g => (decodePf c s.pf p).toList ++ (decodeGf c s.gf g).toList
  | .read u a => [.rd u a]

/-! ### The encoder -/

/-- A unit's inputs when nothing is driven. -/
def idleIn : PortIn := { rst := false, inValid := false, inData := 0, evtReady := false }

/-- A unit's inputs when the transport offers a byte (43_control R100). -/
def byteIn (b : Byte) : PortIn := { rst := false, inValid := true, inData := b, evtReady := false }

/-- A unit's inputs at a reset edge (43_control R99). -/
def rstIn : PortIn := { rst := true, inValid := false, inData := 0, evtReady := false }

/-- A unit's inputs when the consumer takes the pending event (43_control R103). -/
def ackIn : PortIn := { rst := false, inValid := false, inData := 0, evtReady := true }

/-- An edge at which only unit `u` is driven. -/
def edgeFor (p : PortIn) : UnitId → HostAct
  | .pf => .edge p idleIn
  | .gf => .edge idleIn p

/-- The unit whose byte input a transition consumes and the byte itself (30_encoding R53, R57); `none` for the port
operations, which consume no byte. -/
def Instr.byte? : Instr → Option (UnitId × Byte)
  | .pfStart => some (.pf, startByte)
  | .pfNoise b => some (.pf, b)
  | .pfCountZero => some (.pf, 0)
  | .pfCount b => some (.pf, b)
  | .pfPayload b => some (.pf, b)
  | .pfPayloadLast b => some (.pf, b)
  | .pfChkFail b => some (.pf, b)
  | .pfChkNext b => some (.pf, b)
  | .pfChkLast b => some (.pf, b)
  | .pfEnd => some (.pf, endByte)
  | .pfEndNoise b => some (.pf, b)
  | .gfStart => some (.gf, startByte)
  | .gfNoise b => some (.gf, b)
  | .gfRcountZero => some (.gf, 0)
  | .gfRcount b => some (.gf, b)
  | .gfStartLo b => some (.gf, b)
  | .gfStartHi b => some (.gf, b)
  | .gfEndLo b => some (.gf, b)
  | .gfEndHi b => some (.gf, b)
  | .gfChkFail b => some (.gf, b)
  | .gfChkRangeNext b => some (.gf, b)
  | .gfChkGroupNext b => some (.gf, b)
  | .gfChkGroupLast b => some (.gf, b)
  | .gfEnd => some (.gf, endByte)
  | .gfEndNoise b => some (.gf, b)
  | .gfTerm b => some (.gf, b)
  | .reset _ => none
  | .evtAck _ => none
  | .rd _ _ => none

/-- The host action that stands for an instruction: the byte on the unit's byte input, or the port operation's input, with
nothing else driven. -/
def encode (i : Instr) : HostAct :=
  match i.byte? with
  | some (u, b) => edgeFor (byteIn b) u
  | none =>
    match i with
    | .reset u => edgeFor rstIn u
    | .evtAck u => edgeFor ackIn u
    | .rd u a => .read u a
    | _ => .edge idleIn idleIn

/-! ### The rows of 30_encoding R57 -/

/-- Whether a row of R57 applies to the PF in control state `st`, with no event pending (R68). -/
def pfRow (s : State) (st : PfSt) (cond : Bool) : Bool := !s.pf.evValid && decide (s.pf.st.effective = st) && cond

/-- Whether a row of R57 applies to the GF in control state `st`, with no event pending (R80). -/
def gfRow (s : State) (st : GfSt) (cond : Bool) : Bool := !s.gf.evValid && decide (s.gf.st.effective = st) && cond

/-- The state, byte and register conditions under which an instruction is the one selected: the rows of 30_encoding R57
as they stand there, and the conditions of the port operations (43_control R98, R103, R104). -/
def Instr.selected (c : Params) (s : State) : Instr → Bool
  | .pfStart => pfRow s .awaitStart true
  | .pfNoise b => pfRow s .awaitStart (b ≠ startByte)
  | .pfCountZero => pfRow s .awaitCount true
  | .pfCount b => pfRow s .awaitCount (b ≠ 0)
  | .pfPayload _ => pfRow s .awaitPacketByte ((s.pf.cur + 1) % c.bpp ≠ 0)
  | .pfPayloadLast _ => pfRow s .awaitPacketByte ((s.pf.cur + 1) % c.bpp = 0)
  | .pfChkFail b => pfRow s .awaitChecksum (b ≠ s.pf.acc)
  | .pfChkNext b => pfRow s .awaitChecksum (b = s.pf.acc ∧ 2 ≤ s.pf.rem.toNat)
  | .pfChkLast b => pfRow s .awaitChecksum (b = s.pf.acc ∧ s.pf.rem.toNat ≤ 1)
  | .pfEnd => pfRow s .awaitEnd true
  | .pfEndNoise b => pfRow s .awaitEnd (b ≠ endByte)
  | .gfStart => gfRow s .awaitStart true
  | .gfNoise b => gfRow s .awaitStart (b ≠ startByte)
  | .gfRcountZero => gfRow s .awaitRangeCount true
  | .gfRcount b => gfRow s .awaitRangeCount (b ≠ 0)
  | .gfStartLo _ => gfRow s .awaitStartLow true
  | .gfStartHi _ => gfRow s .awaitStartHigh true
  | .gfEndLo _ => gfRow s .awaitEndLow true
  | .gfEndHi _ => gfRow s .awaitEndHigh true
  | .gfChkFail b => gfRow s .awaitChecksum (b ≠ s.gf.acc)
  | .gfChkRangeNext b => gfRow s .awaitChecksum (b = s.gf.acc ∧ s.gf.k.toNat + 1 < s.gf.r.toNat)
  | .gfChkGroupNext b =>
    gfRow s .awaitChecksum (b = s.gf.acc ∧ s.gf.r.toNat ≤ s.gf.k.toNat + 1 ∧ s.gf.grp.toNat + 1 < c.groups)
  | .gfChkGroupLast b =>
    gfRow s .awaitChecksum (b = s.gf.acc ∧ s.gf.r.toNat ≤ s.gf.k.toNat + 1 ∧ c.groups ≤ s.gf.grp.toNat + 1)
  | .gfEnd => gfRow s .awaitEnd true
  | .gfEndNoise b => gfRow s .awaitEnd (b ≠ endByte)
  | .gfTerm _ => gfRow s .terminal true
  | .reset _ => true
  | .evtAck .pf => s.pf.evValid
  | .evtAck .gf => s.gf.evValid
  | .rd _ _ => true

/-! ### What one host action does apart from the instructions it selects -/

/-- A unit that holds an unused code recovers at an edge with no reset and no acknowledge (10_state R28). -/
def recoverPf (p : PortIn) (u : PfState) : PfState := if p.rst || (u.evValid && p.evtReady) then u else u.recover

/-- A unit that holds an unused code recovers at an edge with no reset and no acknowledge (10_state R28). -/
def recoverGf (g : PortIn) (u : GfState) : GfState := if g.rst || (u.evValid && g.evtReady) then u else u.recover

/-- Takes the action off the host's list; at an edge, counts it for the free values (log entry 4) and lets unused codes
recover (10_state R28). -/
def advance (s : State) : HostAct → State
  | .edge p g =>
    { s with host := s.host.tail, tick := s.tick + 1, pf := recoverPf p s.pf, gf := recoverGf g s.gf }
  | .read _ _ => { s with host := s.host.tail }

/-- The next host action: the oldest of the list, or an edge with nothing driven when the list is empty (log entry 2). -/
def fetch (s : State) : HostAct := s.host.headD (.edge idleIn idleIn)

/-! ### Words of the opcode table -/

/-- The host action of an 8-bit word of spec/opcode_table.json: the byte on the PF's input (log entry 11). -/
def wordAct (nbits w : Nat) : HostAct := edgeFor (byteIn (BitVec.ofNat 8 (w % 2 ^ nbits))) .pf

/-- The instruction the decoder reads from a word of spec/opcode_table.json. Every word is one byte (30_encoding R53), and
which row it is depends on the unit and its state (R57): this is the PF's reading right after reset (log entry 11). -/
def decodeTableWord (nbits w : Nat) : Option Instr :=
  if nbits = 8 then (decode params State.reset (wordAct nbits w)).head? else none

end Sys2Proof
end

