-- ==== Sys2Proof/Machine/GroupFramer.lean ====
section
/-! DEFINITION. The meanings of the GF's transitions (42_group_framer). A meaning is its rule's pseudocode; the rule's
Encoding line is the decoder's (log entry 8). -/

namespace Sys2Proof.Machine

/-- GF.START (R82): st <- AwaitRangeCount. -/
def execGfStart (s : State) : Host.Outcome State Fault Refusal :=
  .next (s.setGf (s.gf.setSt .awaitRangeCount))

/-- GF.NOISE (R83): no state changes. -/
def execGfNoise (_b : Byte) (s : State) : Host.Outcome State Fault Refusal :=
  .next s

/-- GF.RCOUNT_ZERO (R84): the count 0 is loaded, st <- AwaitChecksum. -/
def execGfRcountZero (s : State) : Host.Outcome State Fault Refusal :=
  .next (s.setGf ((s.gf.loadRangeCount 0).setSt .awaitChecksum))

/-- GF.RCOUNT (R85): the count is loaded, st <- AwaitStartLow. -/
def execGfRcount (b : Byte) (s : State) : Host.Outcome State Fault Refusal :=
  .next (s.setGf ((s.gf.loadRangeCount b).setSt .awaitStartLow))

/-- GF.START_LO (R86): the byte is latched and summed, st <- AwaitStartHigh. -/
def execGfStartLo (b : Byte) (s : State) : Host.Outcome State Fault Refusal :=
  .next (s.setGf ((s.gf.takeLow b).setSt .awaitStartHigh))

/-- GF.START_HI (R87): start_led is written to slot 2k, st <- AwaitEndLow. -/
def execGfStartHi (b : Byte) (s : State) : Host.Outcome State Fault Refusal :=
  .next (s.setGf ((s.gf.takeHigh s.gf.startSlot b).setSt .awaitEndLow))

/-- GF.END_LO (R88): the byte is latched and summed, st <- AwaitEndHigh. -/
def execGfEndLo (b : Byte) (s : State) : Host.Outcome State Fault Refusal :=
  .next (s.setGf ((s.gf.takeLow b).setSt .awaitEndHigh))

/-- GF.END_HI (R89): end_led is written to slot 2k + 1, st <- AwaitChecksum. -/
def execGfEndHi (b : Byte) (s : State) : Host.Outcome State Fault Refusal :=
  .next (s.setGf ((s.gf.takeHigh s.gf.endSlot b).setSt .awaitChecksum))

/-- GF.CHK_FAIL (R90): the whole message is aborted with no event. -/
def execGfChkFail (_b : Byte) (s : State) : Host.Outcome State Fault Refusal :=
  .next (s.setGf s.gf.abort)

/-- GF.CHK_RANGE_NEXT (R91): k <- k + 1, acc <- r, st <- AwaitStartLow. -/
def execGfChkRangeNext (_b : Byte) (s : State) : Host.Outcome State Fault Refusal :=
  .next (s.setGf (s.gf.nextRange.setSt .awaitStartLow))

/-- GF.CHK_GROUP_NEXT (R92): GRP is presented, grp <- grp + 1, st <- AwaitRangeCount. -/
def execGfChkGroupNext (_b : Byte) (s : State) : Host.Outcome State Fault Refusal :=
  .next (s.setGf (s.gf.raiseGrp.setSt .awaitRangeCount))

/-- GF.CHK_GROUP_LAST (R93): GRP is presented, grp <- grp + 1, st <- AwaitEnd. -/
def execGfChkGroupLast (_b : Byte) (s : State) : Host.Outcome State Fault Refusal :=
  .next (s.setGf (s.gf.raiseGrp.setSt .awaitEnd))

/-- GF.END (R94): st <- Terminal. -/
def execGfEnd (s : State) : Host.Outcome State Fault Refusal :=
  .next (s.setGf (s.gf.setSt .terminal))

/-- GF.END_NOISE (R95): no state changes. -/
def execGfEndNoise (_b : Byte) (s : State) : Host.Outcome State Fault Refusal :=
  .next s

/-- GF.TERM (R96): no state changes. -/
def execGfTerm (_b : Byte) (s : State) : Host.Outcome State Fault Refusal :=
  .next s

end Sys2Proof.Machine
end

