-- ==== Sys2Proof/Machine/PacketFramer.lean ====
section
/-! DEFINITION. The meanings of the PF's transitions (41_packet_framer). A meaning is its rule's pseudocode; the rule's
Encoding line is the decoder's (log entry 8). -/

namespace Sys2Proof.Machine

open Sys2Proof.Config

/-- PF.START (R69): st <- AwaitCount. -/
def execPfStart (s : State) : Host.Outcome State Fault Refusal :=
  .next (s.setPf (s.pf.setSt .awaitCount))

/-- PF.NOISE (R70): no state changes. -/
def execPfNoise (_b : Byte) (s : State) : Host.Outcome State Fault Refusal :=
  .next s

/-- PF.COUNT_ZERO (R71): the count 0 is loaded, st <- AwaitEnd. -/
def execPfCountZero (s : State) : Host.Outcome State Fault Refusal :=
  .next (s.setPf ((s.pf.loadCount 0).setSt .awaitEnd))

/-- PF.COUNT (R72): the count is loaded, st <- AwaitPacketByte. -/
def execPfCount (b : Byte) (s : State) : Host.Outcome State Fault Refusal :=
  .next (s.setPf ((s.pf.loadCount b).setSt .awaitPacketByte))

/-- PF.PAYLOAD (R73): the byte is stored, st unchanged. -/
def execPfPayload (b : Byte) (s : State) : Host.Outcome State Fault Refusal :=
  .next (s.setPf (s.pf.storePayload params b))

/-- PF.PAYLOAD_LAST (R74): the byte is stored, st <- AwaitChecksum. -/
def execPfPayloadLast (b : Byte) (s : State) : Host.Outcome State Fault Refusal :=
  .next (s.setPf ((s.pf.storePayload params b).setSt .awaitChecksum))

/-- PF.CHK_FAIL (R75): the message is aborted with no event. -/
def execPfChkFail (_b : Byte) (s : State) : Host.Outcome State Fault Refusal :=
  .next (s.setPf s.pf.abort)

/-- PF.CHK_NEXT (R76): rem <- rem - 1, acc <- 0, st <- AwaitPacketByte. -/
def execPfChkNext (_b : Byte) (s : State) : Host.Outcome State Fault Refusal :=
  .next (s.setPf (s.pf.nextPacket.setSt .awaitPacketByte))

/-- PF.CHK_LAST (R77): rem <- 0, acc <- 0, st <- AwaitEnd. -/
def execPfChkLast (_b : Byte) (s : State) : Host.Outcome State Fault Refusal :=
  .next (s.setPf (s.pf.lastPacket.setSt .awaitEnd))

/-- PF.END (R78): EOM is presented, st <- AwaitStart. -/
def execPfEnd (s : State) : Host.Outcome State Fault Refusal :=
  .next (s.setPf (s.pf.raiseEom.setSt .awaitStart))

/-- PF.END_NOISE (R79): no state changes. -/
def execPfEndNoise (_b : Byte) (s : State) : Host.Outcome State Fault Refusal :=
  .next s

end Sys2Proof.Machine
end

