-- ==== Sys2Proof/Machine/PortOps.lean ====
section
/-! DEFINITION. The meanings of the port operations (43_control): RESET, EVT_ACK and RD, each for one unit. -/

namespace Sys2Proof.Machine

/-- RESET (R99): every register of the unit takes its reset value (10_state R33), a pending event is discarded, every
buffer element becomes unspecified, and the other unit is not affected. -/
def execReset (u : UnitId) (s : State) : Host.Outcome State Fault Refusal :=
  match u with
  | .pf => .next (s.setPf PfState.reset)
  | .gf => .next (s.setGf GfState.reset)

/-- EVT_ACK (R103): ev_valid <- 0 and nothing else. -/
def execEvtAck (u : UnitId) (s : State) : Host.Outcome State Fault Refusal :=
  match u with
  | .pf => .next (s.setPf s.pf.ack)
  | .gf => .next (s.setGf s.gf.ack)

/-- RD (R104): the consumer samples `rd_data` at address `a`: the payload element, or any value where the rule leaves it
unspecified. The block does not change. -/
def execRd (u : UnitId) (a : Nat) (s : State) : Host.Outcome State Fault Refusal :=
  match u with
  | .pf => .next (s.setPfRd (s.pfRdData a))
  | .gf => .next (s.setGfRd (s.gfRdData a))

end Sys2Proof.Machine
end

