-- ==== Sys2Proof/Machine/Dispatch.lean ====
section
/-! DEFINITION. One arm per instruction, each one call of its meaning. -/

namespace Sys2Proof.Machine

def exec (i : Instr) (s : State) : Host.Outcome State Fault Refusal :=
  match i with
  | .pfStart => Sys2Proof.Machine.execPfStart s
  | .pfNoise b => Sys2Proof.Machine.execPfNoise b s
  | .pfCountZero => Sys2Proof.Machine.execPfCountZero s
  | .pfCount b => Sys2Proof.Machine.execPfCount b s
  | .pfPayload b => Sys2Proof.Machine.execPfPayload b s
  | .pfPayloadLast b => Sys2Proof.Machine.execPfPayloadLast b s
  | .pfChkFail b => Sys2Proof.Machine.execPfChkFail b s
  | .pfChkNext b => Sys2Proof.Machine.execPfChkNext b s
  | .pfChkLast b => Sys2Proof.Machine.execPfChkLast b s
  | .pfEnd => Sys2Proof.Machine.execPfEnd s
  | .pfEndNoise b => Sys2Proof.Machine.execPfEndNoise b s
  | .gfStart => Sys2Proof.Machine.execGfStart s
  | .gfNoise b => Sys2Proof.Machine.execGfNoise b s
  | .gfRcountZero => Sys2Proof.Machine.execGfRcountZero s
  | .gfRcount b => Sys2Proof.Machine.execGfRcount b s
  | .gfStartLo b => Sys2Proof.Machine.execGfStartLo b s
  | .gfStartHi b => Sys2Proof.Machine.execGfStartHi b s
  | .gfEndLo b => Sys2Proof.Machine.execGfEndLo b s
  | .gfEndHi b => Sys2Proof.Machine.execGfEndHi b s
  | .gfChkFail b => Sys2Proof.Machine.execGfChkFail b s
  | .gfChkRangeNext b => Sys2Proof.Machine.execGfChkRangeNext b s
  | .gfChkGroupNext b => Sys2Proof.Machine.execGfChkGroupNext b s
  | .gfChkGroupLast b => Sys2Proof.Machine.execGfChkGroupLast b s
  | .gfEnd => Sys2Proof.Machine.execGfEnd s
  | .gfEndNoise b => Sys2Proof.Machine.execGfEndNoise b s
  | .gfTerm b => Sys2Proof.Machine.execGfTerm b s
  | .reset u => Sys2Proof.Machine.execReset u s
  | .evtAck u => Sys2Proof.Machine.execEvtAck u s
  | .rd u a => Sys2Proof.Machine.execRd u a s

end Sys2Proof.Machine
end

