-- ==== Sys2Proof/Machine/Run.lean ====
section
/-! DEFINITION. Performing the instructions of one host action one after another. -/

namespace Sys2Proof.Machine

/-- Performs a list of instructions in order, stopping at the first that gives no next state. At an edge the list holds at
most one instruction per unit, and the units share no state (20_memory R47; log entry 3). -/
def runInstrs : List Instr → State → Host.Outcome State Fault Refusal
  | [], s => .next s
  | i :: is, s =>
    match exec i s with
    | .next t => runInstrs is t
    | .fault r => .fault r
    | .refused r => .refused r

end Sys2Proof.Machine
end

