-- ==== Sys2Proof/Machine/Step.lean ====
section
/-! DEFINITION. One step: one host action, which is one rising edge of the clock for both units (43_control R98) or one
read between edges (R104). -/

namespace Sys2Proof.Machine

open Sys2Proof.Config

/-- Fetches the next host action, lets the machine move past it, and performs the instructions it selects, read from the
state before the step (00_scope R10). -/
def step (s : State) : Host.Outcome State Fault Refusal :=
  runInstrs (decode params s (fetch s)) (advance s (fetch s))

/-- `s` with the word's byte offered to the PF at the next edge, before whatever the host does after that (log entry 11). -/
def State.withFetchWord (s : State) (nbits w : Nat) : State := { s with host := wordAct nbits w :: s.host }

end Sys2Proof.Machine
end

