-- ==== Sys2Proof/Machine/Transaction.lean ====
section
/-! DEFINITION. The transaction level (00_scope R11): one function per unit from a state and a byte to the next state and
at most one event, with the signatures of 41_packet_framer R68 and 42_group_framer R80. The machine's step does not call
it: it is the spec's normative level, written down a second time for claims that compare the two. -/

namespace Sys2Proof.Machine

open Sys2Proof.Config

/-- One PF step (R68): the next state and the event it emits. Its precondition is that no event is pending. -/
def pfTxn (c : Params) (u : PfState) (b : Byte) : PfState × Option Eom :=
  match u.st with
  | .awaitStart => ({ u with st := if b = startByte then .awaitCount else .awaitStart }, none)
  | .unused _ => ({ u with st := if b = startByte then .awaitCount else .awaitStart }, none)
  | .awaitCount =>
    ({ u with
        n := b, rem := b, cur := 0, acc := 0, pbuf := []
        st := if b = 0 then .awaitEnd else .awaitPacketByte }, none)
  | .awaitPacketByte =>
    ({ u with
        pbuf := u.pbuf.write (pbufCap c) u.cur b, cur := curNext c u.cur, acc := u.acc + b
        st := if (u.cur + 1) % c.bpp = 0 then .awaitChecksum else .awaitPacketByte }, none)
  | .awaitChecksum =>
    if b ≠ u.acc then ({ u with st := .awaitStart }, none)
    else if 2 ≤ u.rem.toNat then ({ u with rem := u.rem - 1, acc := 0, st := .awaitPacketByte }, none)
    else ({ u with rem := 0, acc := 0, st := .awaitEnd }, none)
  | .awaitEnd =>
    if b = endByte then
      ({ u with evValid := true, evN := u.n, st := .awaitStart },
       some { payload := u.pbuf.slice 0 (u.n.toNat * c.bpp), count := u.n })
    else (u, none)

/-- One GF step (R80): the next state and the event it emits. Its precondition is that no event is pending. -/
def gfTxn (c : Params) (u : GfState) (b : Byte) : GfState × Option Grp :=
  match u.st with
  | .awaitStart => ({ u with st := if b = startByte then .awaitRangeCount else .awaitStart }, none)
  | .unused _ => ({ u with grp := 0, st := if b = startByte then .awaitRangeCount else .awaitStart }, none)
  | .awaitRangeCount =>
    ({ u with r := b, k := 0, acc := b, rbuf := [], st := if b = 0 then .awaitChecksum else .awaitStartLow }, none)
  | .awaitStartLow => ({ u with lo := b, acc := u.acc + b, st := .awaitStartHigh }, none)
  | .awaitStartHigh =>
    ({ u with
        rbuf := u.rbuf.write rbufCap (2 * u.k.toNat) (pairHigh b u.lo), acc := u.acc + b
        st := .awaitEndLow }, none)
  | .awaitEndLow => ({ u with lo := b, acc := u.acc + b, st := .awaitEndHigh }, none)
  | .awaitEndHigh =>
    ({ u with
        rbuf := u.rbuf.write rbufCap (2 * u.k.toNat + 1) (pairHigh b u.lo), acc := u.acc + b
        st := .awaitChecksum }, none)
  | .awaitChecksum =>
    if b ≠ u.acc then ({ u with grp := 0, st := .awaitStart }, none)
    else if u.k.toNat + 1 < u.r.toNat then ({ u with k := u.k + 1, acc := u.r, st := .awaitStartLow }, none)
    else
      ({ u with
          k := u.k + 1, evValid := true, evR := u.r, evGi := u.grp, grp := u.grp + 1
          st := if u.grp.toNat + 1 < c.groups then .awaitRangeCount else .awaitEnd },
       some { ranges := u.rbuf.slice 0 (2 * u.r.toNat), count := u.r, groupIndex := u.grp })
  | .awaitEnd => ({ u with st := if b = endByte then .terminal else .awaitEnd }, none)
  | .terminal => (u, none)

/-- A stream of accepted bytes, the consumer acknowledging each event before the next byte (43_control R101): the last
state and the events in order. -/
def pfTxns (c : Params) : PfState → List Byte → PfState × List Eom
  | u, [] => (u, [])
  | u, b :: bs =>
    let r := pfTxns c (pfTxn c u.ack b).1 bs
    (r.1, (pfTxn c u.ack b).2.toList ++ r.2)

/-- A stream of accepted bytes, the consumer acknowledging each event before the next byte (43_control R101): the last
state and the events in order. -/
def gfTxns (c : Params) : GfState → List Byte → GfState × List Grp
  | u, [] => (u, [])
  | u, b :: bs =>
    let r := gfTxns c (gfTxn c u.ack b).1 bs
    (r.1, (gfTxn c u.ack b).2.toList ++ r.2)

end Sys2Proof.Machine
end

