-- ==== Sys2Proof/Machine/Wire.lean ====
section
/-! DEFINITION. The two wire formats as byte streams: the pseudo-messages PKTMSG and GRPMSG of 30_encoding R62. -/

namespace Sys2Proof.Machine

open Sys2Proof.Config

/-- One packet on the wire: its payload bytes and their checksum (30_encoding R54). -/
def packetBytes (p : List Byte) : List Byte := p ++ [sum8 p]

/-- PKTMSG (30_encoding R62): the valid packet message with these packets (R54). -/
def pktMsg (ps : List (List Byte)) : List Byte :=
  startByte :: BitVec.ofNat 8 ps.length :: (ps.flatMap packetBytes ++ [endByte])

/-- The low byte of a LED index, v[7:0]. -/
def loByte (v : Slot) : Byte := v.extractLsb' 0 8

/-- The high byte of a LED index, v[15:8]. -/
def hiByte (v : Slot) : Byte := v.extractLsb' 8 8

/-- One range on the wire, in a group of `r` ranges: the index bytes, low byte first (20_memory R37), and the checksum
(30_encoding R55). -/
def rangeBytes (r : Byte) (q : Slot × Slot) : List Byte :=
  let bs := [loByte q.1, hiByte q.1, loByte q.2, hiByte q.2]
  bs ++ [sum8 (r :: bs)]

/-- One group on the wire (30_encoding R55): a group of no ranges is the two bytes 00 00. -/
def groupBytes (qs : List (Slot × Slot)) : List Byte :=
  let r := BitVec.ofNat 8 qs.length
  if qs.isEmpty then [0, 0] else r :: qs.flatMap (rangeBytes r)

/-- GRPMSG (30_encoding R62): the valid group-setup message with these groups (R55). -/
def grpMsg (gs : List (List (Slot × Slot))) : List Byte := startByte :: (gs.flatMap groupBytes ++ [endByte])

/-- The slots of a group's ranges in RBUF order: start_0, end_0, start_1, end_1, … (20_memory R36). -/
def rangeSlots (qs : List (Slot × Slot)) : List Slot := qs.flatMap fun q => [q.1, q.2]

end Sys2Proof.Machine
end

