-- ==== Sys2Proof/Safety.lean ====
section
/-! DEFINITION. What a safe state is (the invariants of 10_state R30 and R31), and what an observer of a run records: the
bytes a unit accepts and the events it sets pending (43_control R106). -/

namespace Sys2Proof.Machine

open Sys2Proof.Config

/-! ### Invariants of reachable states -/

/-- Elements 0 to `len − 1` of a buffer hold a value. -/
def Memory.written {w : Nat} (m : Memory w) (len : Nat) : Prop := ∀ i, i < len → (m.read i).isSome = true

/-- sum8 of elements `a` to `a + len − 1` of PBUF, all of them written. -/
def Memory.sumFrom (m : Memory 8) (a len : Nat) : Byte := sum8 ((m.slice a len).map fun o => o.getD 0)

/-- The sum of the two bytes of a written slot. -/
def slotSum (o : Option Slot) : Byte := loByte (o.getD 0) + hiByte (o.getD 0)

/-- P, the index of the current packet (10_state R30). -/
def PfState.packet (u : PfState) : Nat := u.n.toNat - u.rem.toNat

/-- 10_state R30, with the buffer's canonical form, and with the pending payload written (R32, 20_memory R48). -/
structure PfInv (c : Params) (u : PfState) : Prop where
  /-- PBUF is in canonical form. -/
  buffer : u.pbuf.wf (pbufCap c) = true
  /-- No unused state code (R28). -/
  named : u.st.used = true
  /-- The cursor never exceeds 255·BPP (R30). -/
  cursor : u.cur ≤ pbufCap c
  /-- R30, AwaitPacketByte. -/
  packetByte : u.st = .awaitPacketByte →
    1 ≤ u.rem.toNat ∧ u.rem.toNat ≤ u.n.toNat ∧
    u.packet * c.bpp ≤ u.cur ∧ u.cur < (u.packet + 1) * c.bpp ∧
    u.acc = u.pbuf.sumFrom (u.packet * c.bpp) (u.cur - u.packet * c.bpp) ∧ u.pbuf.written u.cur
  /-- R30, AwaitChecksum. -/
  checksum : u.st = .awaitChecksum →
    1 ≤ u.rem.toNat ∧ u.rem.toNat ≤ u.n.toNat ∧ u.cur = (u.packet + 1) * c.bpp ∧
    u.acc = u.pbuf.sumFrom (u.packet * c.bpp) (u.cur - u.packet * c.bpp) ∧ u.pbuf.written u.cur
  /-- R30, AwaitEnd. -/
  awaitEnd : u.st = .awaitEnd →
    u.rem = 0 ∧ u.cur = u.n.toNat * c.bpp ∧ u.pbuf.written (u.n.toNat * c.bpp)
  /-- R30, a pending event; and its payload is written (R32). -/
  event : u.evValid = true →
    u.st = .awaitStart ∧ u.evN = u.n ∧ u.pbuf.written (u.n.toNat * c.bpp)

/-- 10_state R31, with the buffer's canonical form, with the checksum so far in each index state (the clauses that make
R31 inductive), and with the pending payload written (R32, 20_memory R48). -/
structure GfInv (c : Params) (u : GfState) : Prop where
  /-- RBUF is in canonical form. -/
  buffer : u.rbuf.wf rbufCap = true
  /-- No unused state code (R28). -/
  named : u.st.used = true
  /-- R31, AwaitStart. -/
  awaitStart : u.st = .awaitStart → u.grp = 0
  /-- R31, the states inside a message. -/
  inMessage : u.st ∈ [GfSt.awaitRangeCount, .awaitStartLow, .awaitStartHigh, .awaitEndLow, .awaitEndHigh, .awaitChecksum] →
    u.grp.toNat < c.groups
  /-- R31, the index states. -/
  inRange : u.st ∈ [GfSt.awaitStartLow, .awaitStartHigh, .awaitEndLow, .awaitEndHigh] →
    1 ≤ u.r.toNat ∧ u.k.toNat < u.r.toNat ∧ u.rbuf.written (2 * u.k.toNat)
  /-- R31: in the end-index states the start index has been written. -/
  startWritten : u.st ∈ [GfSt.awaitEndLow, .awaitEndHigh] → (u.rbuf.read (2 * u.k.toNat)).isSome = true
  /-- The checksum at the start of a range is R. -/
  sumStartLow : u.st = .awaitStartLow → u.acc = u.r
  /-- The checksum after START_LO. -/
  sumStartHigh : u.st = .awaitStartHigh → u.acc = u.r + u.lo
  /-- The checksum after START_HI. -/
  sumEndLow : u.st = .awaitEndLow → u.acc = u.r + slotSum (u.rbuf.read (2 * u.k.toNat))
  /-- The checksum after END_LO. -/
  sumEndHigh : u.st = .awaitEndHigh → u.acc = u.r + slotSum (u.rbuf.read (2 * u.k.toNat)) + u.lo
  /-- R31, AwaitChecksum of a group with no ranges. -/
  checksumZero : u.st = .awaitChecksum → u.r = 0 → u.k = 0 ∧ u.acc = 0
  /-- R31, AwaitChecksum of a range. -/
  checksum : u.st = .awaitChecksum → 1 ≤ u.r.toNat →
    u.k.toNat < u.r.toNat ∧ u.rbuf.written (2 * u.k.toNat + 2) ∧
    u.acc = u.r + slotSum (u.rbuf.read (2 * u.k.toNat)) + slotSum (u.rbuf.read (2 * u.k.toNat + 1))
  /-- R31, after the last group. -/
  afterGroups : u.st ∈ [GfSt.awaitEnd, .terminal] → u.grp.toNat = c.groups
  /-- R31, a pending event; and its payload is written (R32). -/
  event : u.evValid = true →
    u.st ∈ [GfSt.awaitRangeCount, .awaitEnd] ∧ u.evR = u.r ∧ u.evGi.toNat + 1 = u.grp.toNat ∧
    u.rbuf.written (2 * u.r.toNat)

/-- The invariant of the whole block, for the hardware that `step` runs. -/
def State.Inv (s : State) : Prop := PfInv params s.pf ∧ GfInv params s.gf

/-! ### Observing a run -/

/-- The PF's inputs in a host action; a read between edges drives none. -/
def HostAct.pfIn : HostAct → PortIn
  | .edge p _ => p
  | .read _ _ => idleIn

/-- The GF's inputs in a host action; a read between edges drives none. -/
def HostAct.gfIn : HostAct → PortIn
  | .edge _ g => g
  | .read _ _ => idleIn

/-- Whether a host action is a rising edge. -/
def HostAct.isEdge : HostAct → Bool
  | .edge _ _ => true
  | .read _ _ => false

/-- The byte the PF accepts (43_control R100): `rst` = 0, `in_valid` = 1 and `in_ready` = 1. -/
def pfAccepts (u : PfState) (p : PortIn) : Option Byte :=
  if !p.rst && p.inValid && u.inReady then some p.inData else none

/-- The byte the GF accepts (43_control R100): `rst` = 0, `in_valid` = 1 and `in_ready` = 1. -/
def gfAccepts (u : GfState) (p : PortIn) : Option Byte :=
  if !p.rst && p.inValid && u.inReady then some p.inData else none

/-- The event the PF sets pending between two states. -/
def pfRaised (s t : State) : Option Eom := if s.pf.evValid then none else t.pf.pending params

/-- The event the GF sets pending between two states. -/
def gfRaised (s t : State) : Option Grp := if s.gf.evValid then none else t.gf.pending

/-- A port-level run of `n` steps, as an observer of the PF sees it (43_control R106): the last state, the bytes the PF
accepted and the events it set pending, each in order. -/
def watchPf : Nat → State → State × List Byte × List Eom
  | 0, s => (s, [], [])
  | n + 1, s =>
    match step s with
    | .next t =>
      let w := watchPf n t
      (w.1, (pfAccepts s.pf (fetch s).pfIn).toList ++ w.2.1, (pfRaised s t).toList ++ w.2.2)
    | _ => (s, [], [])

/-- A port-level run of `n` steps, as an observer of the GF sees it (43_control R106): the last state, the bytes the GF
accepted and the events it set pending, each in order. -/
def watchGf : Nat → State → State × List Byte × List Grp
  | 0, s => (s, [], [])
  | n + 1, s =>
    match step s with
    | .next t =>
      let w := watchGf n t
      (w.1, (gfAccepts s.gf (fetch s).gfIn).toList ++ w.2.1, (gfRaised s t).toList ++ w.2.2)
    | _ => (s, [], [])

/-! ### Words that statements share -/

/-- An edge at which the transport offers byte `b` to unit `u` and nothing else is driven. -/
def offer (u : UnitId) (b : Byte) : HostAct := edgeFor (byteIn b) u

/-- Whether the event of unit `u` is pending. -/
def State.evPending (s : State) : UnitId → Bool
  | .pf => s.pf.evValid
  | .gf => s.gf.evValid

/-- The unit an instruction belongs to. -/
def unitOf (i : Instr) : UnitId :=
  match i.byte? with
  | some (u, _) => u
  | none =>
    match i with
    | .reset u => u
    | .evtAck u => u
    | .rd u _ => u
    | _ => .pf

/-- The frame of a payload byte stored by the PF (41_packet_framer R73, R74): what holds of the state after it, apart from
the control state. The address stored to is `pf.cur`. -/
structure PayloadStored (b : Byte) (s t : State) : Prop where
  stored : t.pf.pbuf.read s.pf.cur = some b
  others : ∀ a, a ≠ s.pf.cur → t.pf.pbuf.read a = s.pf.pbuf.read a
  cursor : t.pf.cur = s.pf.cur + 1
  checksum : t.pf.acc = s.pf.acc + b
  counts : t.pf.n = s.pf.n ∧ t.pf.rem = s.pf.rem
  event : t.pf.evValid = s.pf.evValid ∧ t.pf.evN = s.pf.evN
  rest : t.gf = s.gf ∧ t.host = s.host ∧ t.tick = s.tick ∧ t.pfRd = s.pfRd ∧ t.gfRd = s.gfRd

/-- The frame of a high byte stored by the GF (42_group_framer R87, R89): what holds of the state after it, apart from the
control state. `slot` is the slot stored to. -/
structure SlotStored (slot : Nat) (b : Byte) (s t : State) : Prop where
  stored : t.gf.rbuf.read slot = some (b ++ s.gf.lo)
  others : ∀ a, a ≠ slot → t.gf.rbuf.read a = s.gf.rbuf.read a
  checksum : t.gf.acc = s.gf.acc + b
  counts : t.gf.r = s.gf.r ∧ t.gf.k = s.gf.k ∧ t.gf.lo = s.gf.lo ∧ t.gf.grp = s.gf.grp
  event : t.gf.evValid = s.gf.evValid ∧ t.gf.evR = s.gf.evR ∧ t.gf.evGi = s.gf.evGi
  rest : t.pf = s.pf ∧ t.host = s.host ∧ t.tick = s.tick ∧ t.pfRd = s.pfRd ∧ t.gfRd = s.gfRd

end Sys2Proof.Machine
end

