-- ==== Sys2Proof/Certificates/Slice0/Obligations.lean ====
section
/-! DEFINITION. The statements for the provers. Each says what an instruction or the machine does, from the rules of
spec/ its docstring names. -/

open Sys2Proof Sys2Proof.Config Sys2Proof.Machine

/-! ### The PF's transitions -/

/-- R69: PF.START. In AwaitStart with no event pending the byte 0xFE selects it; it sets st to AwaitCount and changes
nothing else; a second 0xFE is then a count of 254. -/
def Obligations.PfStartResult : Prop :=
  ∀ (c : Params) (s : State), s.pf.st = .awaitStart → s.pf.evValid = false →
    decode c s (offer .pf startByte) = [.pfStart] ∧
    exec .pfStart s = .next { s with pf := { s.pf with st := .awaitCount } } ∧
    decode c { s with pf := { s.pf with st := .awaitCount } } (offer .pf 0xFE) = [.pfCount 254]

/-- R70, R79: PF.NOISE and PF.END_NOISE. A byte other than the marker awaited selects them, and no state changes. -/
def Obligations.PfNoiseChangesNothing : Prop :=
  ∀ (c : Params) (s : State) (b : Byte), s.pf.evValid = false →
    (s.pf.st = .awaitStart → b ≠ startByte →
      decode c s (offer .pf b) = [.pfNoise b] ∧ exec (.pfNoise b) s = .next s) ∧
    (s.pf.st = .awaitEnd → b ≠ endByte →
      decode c s (offer .pf b) = [.pfEndNoise b] ∧ exec (.pfEndNoise b) s = .next s)

/-- R71, R72: PF.COUNT_ZERO and PF.COUNT. The count byte is loaded into n and rem, cur and acc restart at 0, every PBUF
element becomes unspecified, and st moves on; nothing else changes. -/
def Obligations.PfCountLoads : Prop :=
  ∀ (c : Params) (s : State) (b : Byte), s.pf.st = .awaitCount → s.pf.evValid = false →
    (decode c s (offer .pf 0) = [.pfCountZero] ∧
      exec .pfCountZero s = .next
        { s with pf := { s.pf with n := 0, rem := 0, cur := 0, acc := 0, pbuf := [], st := .awaitEnd } }) ∧
    (b ≠ 0 → decode c s (offer .pf b) = [.pfCount b] ∧
      exec (.pfCount b) s = .next
        { s with pf := { s.pf with n := b, rem := b, cur := 0, acc := 0, pbuf := [], st := .awaitPacketByte } })

/-- R73, R74: PF.PAYLOAD and PF.PAYLOAD_LAST. In AwaitPacketByte the cursor's place in its packet selects the row; with the
cursor inside PBUF, the byte is stored at the cursor and nowhere else, the cursor advances and the checksum adds it. With
the cursor beyond PBUF, which no reachable state has, the instruction completes and writes no element (the model's reading
of 20_memory R43, log entry 6). -/
def Obligations.PfPayloadStores : Prop :=
  ∀ (c : Params) (s : State) (b : Byte), s.pf.st = .awaitPacketByte → s.pf.evValid = false →
    ((s.pf.cur + 1) % c.bpp ≠ 0 → decode c s (offer .pf b) = [.pfPayload b]) ∧
    ((s.pf.cur + 1) % c.bpp = 0 → decode c s (offer .pf b) = [.pfPayloadLast b]) ∧
    (s.pf.cur < 255 * params.bpp →
      (∃ t, exec (.pfPayload b) s = .next t ∧ t.pf.st = .awaitPacketByte ∧ PayloadStored b s t) ∧
      (∃ t, exec (.pfPayloadLast b) s = .next t ∧ t.pf.st = .awaitChecksum ∧ PayloadStored b s t)) ∧
    (255 * params.bpp ≤ s.pf.cur →
      (∃ t, exec (.pfPayload b) s = .next t ∧ t.pf.st = .awaitPacketByte ∧ t.pf.pbuf = s.pf.pbuf ∧ t.gf = s.gf) ∧
      (∃ t, exec (.pfPayloadLast b) s = .next t ∧ t.pf.st = .awaitChecksum ∧ t.pf.pbuf = s.pf.pbuf ∧ t.gf = s.gf))

/-- R75, R76, R77: PF.CHK_FAIL, PF.CHK_NEXT and PF.CHK_LAST. The comparison with acc and the count of packets left select
the row; a mismatch only returns st to AwaitStart, a match counts the packet and restarts the checksum. -/
def Obligations.PfChecksumByte : Prop :=
  ∀ (c : Params) (s : State) (b : Byte), s.pf.st = .awaitChecksum → s.pf.evValid = false →
    (b ≠ s.pf.acc → decode c s (offer .pf b) = [.pfChkFail b] ∧
      exec (.pfChkFail b) s = .next { s with pf := { s.pf with st := .awaitStart } }) ∧
    (b = s.pf.acc → 2 ≤ s.pf.rem.toNat → decode c s (offer .pf b) = [.pfChkNext b] ∧
      exec (.pfChkNext b) s = .next
        { s with pf := { s.pf with rem := s.pf.rem - 1, acc := 0, st := .awaitPacketByte } }) ∧
    (b = s.pf.acc → s.pf.rem.toNat ≤ 1 → decode c s (offer .pf b) = [.pfChkLast b] ∧
      exec (.pfChkLast b) s = .next { s with pf := { s.pf with rem := 0, acc := 0, st := .awaitEnd } })

/-- R78: PF.END. In AwaitEnd the byte 0xFF selects it; it presents EOM with PBUF[0 .. n·BPP − 1] and n, and st returns to
AwaitStart; nothing else changes. -/
def Obligations.PfEndPresentsMessage : Prop :=
  ∀ (c : Params) (s : State), s.pf.st = .awaitEnd → s.pf.evValid = false →
    decode c s (offer .pf endByte) = [.pfEnd] ∧
    ∃ t, exec .pfEnd s = .next t ∧
      t = { s with pf := { s.pf with evValid := true, evN := s.pf.n, st := .awaitStart } } ∧
      t.pf.pending params =
        some { payload := (List.range (s.pf.n.toNat * params.bpp)).map s.pf.pbuf.read, count := s.pf.n }

/-! ### The GF's transitions -/

/-- R82, R94: GF.START and GF.END. The marker awaited selects them; each only moves st. -/
def Obligations.GfMarkersMoveState : Prop :=
  ∀ (c : Params) (s : State), s.gf.evValid = false →
    (s.gf.st = .awaitStart → decode c s (offer .gf startByte) = [.gfStart] ∧
      exec .gfStart s = .next { s with gf := { s.gf with st := .awaitRangeCount } }) ∧
    (s.gf.st = .awaitEnd → decode c s (offer .gf endByte) = [.gfEnd] ∧
      exec .gfEnd s = .next { s with gf := { s.gf with st := .terminal } })

/-- R83, R95, R96: GF.NOISE, GF.END_NOISE and GF.TERM. A byte other than the marker awaited, and every byte in Terminal,
changes no state. -/
def Obligations.GfNoiseChangesNothing : Prop :=
  ∀ (c : Params) (s : State) (b : Byte), s.gf.evValid = false →
    (s.gf.st = .awaitStart → b ≠ startByte →
      decode c s (offer .gf b) = [.gfNoise b] ∧ exec (.gfNoise b) s = .next s) ∧
    (s.gf.st = .awaitEnd → b ≠ endByte →
      decode c s (offer .gf b) = [.gfEndNoise b] ∧ exec (.gfEndNoise b) s = .next s) ∧
    (s.gf.st = .terminal → decode c s (offer .gf b) = [.gfTerm b] ∧ exec (.gfTerm b) s = .next s)

/-- R84, R85: GF.RCOUNT_ZERO and GF.RCOUNT. The count byte is loaded into r and the checksum, k restarts at 0, every RBUF
slot becomes unspecified, and st moves on; nothing else changes. -/
def Obligations.GfRangeCountLoads : Prop :=
  ∀ (c : Params) (s : State) (b : Byte), s.gf.st = .awaitRangeCount → s.gf.evValid = false →
    (decode c s (offer .gf 0) = [.gfRcountZero] ∧
      exec .gfRcountZero s = .next
        { s with gf := { s.gf with r := 0, k := 0, acc := 0, rbuf := [], st := .awaitChecksum } }) ∧
    (b ≠ 0 → decode c s (offer .gf b) = [.gfRcount b] ∧
      exec (.gfRcount b) s = .next
        { s with gf := { s.gf with r := b, k := 0, acc := b, rbuf := [], st := .awaitStartLow } })

/-- R86, R88: GF.START_LO and GF.END_LO. Any byte is latched as the low byte and added to the checksum; nothing else but
st changes. -/
def Obligations.GfLowByteLatches : Prop :=
  ∀ (c : Params) (s : State) (b : Byte), s.gf.evValid = false →
    (s.gf.st = .awaitStartLow → decode c s (offer .gf b) = [.gfStartLo b] ∧
      exec (.gfStartLo b) s = .next
        { s with gf := { s.gf with lo := b, acc := s.gf.acc + b, st := .awaitStartHigh } }) ∧
    (s.gf.st = .awaitEndLow → decode c s (offer .gf b) = [.gfEndLo b] ∧
      exec (.gfEndLo b) s = .next
        { s with gf := { s.gf with lo := b, acc := s.gf.acc + b, st := .awaitEndHigh } })

/-- R87, R89: GF.START_HI and GF.END_HI. With range k inside RBUF, the 16-bit value of the byte and the latched low byte is
stored whole in slot 2k (2k + 1) and nowhere else, and the byte is added to the checksum. With k = 255, which no reachable
state has, the instruction completes and writes no slot (the model's reading of 20_memory R43, log entry 6). -/
def Obligations.GfHighByteStores : Prop :=
  ∀ (c : Params) (s : State) (b : Byte), s.gf.evValid = false →
    (s.gf.st = .awaitStartHigh → decode c s (offer .gf b) = [.gfStartHi b] ∧
      ∃ t, exec (.gfStartHi b) s = .next t ∧ t.gf.st = .awaitEndLow ∧
        (s.gf.k.toNat < 255 → SlotStored (2 * s.gf.k.toNat) b s t) ∧
        (s.gf.k.toNat = 255 → t.gf.rbuf = s.gf.rbuf ∧ t.pf = s.pf)) ∧
    (s.gf.st = .awaitEndHigh → decode c s (offer .gf b) = [.gfEndHi b] ∧
      ∃ t, exec (.gfEndHi b) s = .next t ∧ t.gf.st = .awaitChecksum ∧
        (s.gf.k.toNat < 255 → SlotStored (2 * s.gf.k.toNat + 1) b s t) ∧
        (s.gf.k.toNat = 255 → t.gf.rbuf = s.gf.rbuf ∧ t.pf = s.pf))

/-- R90, R91: GF.CHK_FAIL and GF.CHK_RANGE_NEXT. A mismatch drops the whole message: grp restarts at 0 and st returns to
AwaitStart; a match with more ranges to come counts the range and reloads the checksum with R. -/
def Obligations.GfChecksumInsideGroup : Prop :=
  ∀ (c : Params) (s : State) (b : Byte), s.gf.st = .awaitChecksum → s.gf.evValid = false →
    (b ≠ s.gf.acc → decode c s (offer .gf b) = [.gfChkFail b] ∧
      exec (.gfChkFail b) s = .next { s with gf := { s.gf with grp := 0, st := .awaitStart } }) ∧
    (b = s.gf.acc → s.gf.k.toNat + 1 < s.gf.r.toNat → decode c s (offer .gf b) = [.gfChkRangeNext b] ∧
      exec (.gfChkRangeNext b) s = .next
        { s with gf := { s.gf with k := s.gf.k + 1, acc := s.gf.r, st := .awaitStartLow } })

/-- R92, R93: GF.CHK_GROUP_NEXT and GF.CHK_GROUP_LAST. A match that completes a group presents GRP with RBUF[0 .. 2r − 1],
r and the group index before the increment, and counts the group; nothing else but k and st changes. -/
def Obligations.GfGroupPresents : Prop :=
  ∀ (c : Params) (s : State) (b : Byte), s.gf.st = .awaitChecksum → s.gf.evValid = false →
    b = s.gf.acc → s.gf.r.toNat ≤ s.gf.k.toNat + 1 →
    (s.gf.grp.toNat + 1 < c.groups → decode c s (offer .gf b) = [.gfChkGroupNext b]) ∧
    (c.groups ≤ s.gf.grp.toNat + 1 → decode c s (offer .gf b) = [.gfChkGroupLast b]) ∧
    ∀ i st, (i, st) ∈ [(Instr.gfChkGroupNext b, GfSt.awaitRangeCount), (.gfChkGroupLast b, .awaitEnd)] →
      ∃ t, exec i s = .next t ∧
        t = { s with gf := { s.gf with
                k := s.gf.k + 1, evValid := true, evR := s.gf.r, evGi := s.gf.grp, grp := s.gf.grp + 1, st := st } } ∧
        t.gf.pending = some { ranges := (List.range (2 * s.gf.r.toNat)).map s.gf.rbuf.read, count := s.gf.r,
                              groupIndex := s.gf.grp }

/-! ### The port operations -/

/-- R99: RESET. `rst` = 1 selects it whatever else is driven, so that no byte is consumed; it gives every register of the
unit the value of R33, discards a pending event, and leaves the other unit alone. It leaves the model's own fields too (the
model's choice, log entry 16). -/
def Obligations.ResetUnit : Prop :=
  ∀ (c : Params) (s : State) (p : PortIn), p.rst = true →
    decodePf c s.pf p = some (.reset .pf) ∧ decodeGf c s.gf p = some (.reset .gf) ∧
    exec (.reset .pf) s = .next
      { s with pf := { st := .awaitStart, n := 0, rem := 0, cur := 0, acc := 0, pbuf := [], evValid := false, evN := 0 } } ∧
    exec (.reset .gf) s = .next
      { s with gf := { st := .awaitStart, r := 0, k := 0, lo := 0, acc := 0, grp := 0, rbuf := [],
                       evValid := false, evR := 0, evGi := 0 } }

/-- R103: EVT_ACK. With `rst` = 0, an event pending and `evt_ready` = 1 it is selected, and it sets ev_valid to 0 and
changes nothing else; `evt_ready` with no event pending has no effect. -/
def Obligations.AcknowledgeClearsPending : Prop :=
  ∀ (c : Params) (s : State) (p : PortIn), p.rst = false →
    (s.pf.evValid = true → p.evtReady = true → decodePf c s.pf p = some (.evtAck .pf) ∧
      exec (.evtAck .pf) s = .next { s with pf := { s.pf with evValid := false } }) ∧
    (s.gf.evValid = true → p.evtReady = true → decodeGf c s.gf p = some (.evtAck .gf) ∧
      exec (.evtAck .gf) s = .next { s with gf := { s.gf with evValid := false } }) ∧
    (s.pf.evValid = false → decodePf c s.pf p = decodePf c s.pf { p with evtReady := !p.evtReady }) ∧
    (s.gf.evValid = false → decodeGf c s.gf p = decodeGf c s.gf { p with evtReady := !p.evtReady })

/-- R104: RD. While an event is pending and the address is below the payload length, the payload element is read; at every
other address the read completes too, with some value; no read changes either unit. Where the sample is kept is the model's
choice (log entry 5). -/
def Obligations.ReadPortGivesElement : Prop :=
  ∀ (s : State) (a : Nat),
    (∀ v, s.pf.evValid = true → a < s.pf.evN.toNat * params.bpp → s.pf.pbuf.read a = some v →
      exec (.rd .pf a) s = .next { s with pfRd := v }) ∧
    (∀ v, s.gf.evValid = true → a < 2 * s.gf.evR.toNat → s.gf.rbuf.read a = some v →
      exec (.rd .gf a) s = .next { s with gfRd := v }) ∧
    (∃ v, exec (.rd .pf a) s = .next { s with pfRd := v }) ∧
    (∃ v, exec (.rd .gf a) s = .next { s with gfRd := v })

/-! ### Selection and the step -/

/-- R57, R58: for every state, unit with no event pending, and byte, the byte decodes to an instruction that consumes it
and whose row of R57 applies, and no other row does. -/
def Obligations.ExactlyOneRowApplies : Prop :=
  ∀ (c : Params) (s : State) (u : UnitId) (b : Byte), s.evPending u = false →
    ∃ i, decode c s (offer u b) = [i] ∧ i.byte? = some (u, b) ∧ i.selected c s = true ∧
      ∀ j : Instr, j.byte? = some (u, b) → j.wf c = true → j.selected c s = true → j = i

/-- R53, R57: the input an instruction is encoded as decodes to that instruction, in every state in which its row of R57
(or its port condition) holds. That RD's input is a host action between edges is the model's choice (log entry 15). -/
def Obligations.DecodeEncodeAgree : Prop :=
  ∀ (c : Params) (s : State) (i : Instr), i.wf c = true → i.selected c s = true → decode c s (encode i) = [i]

/-- A few inputs written out from 30_encoding R57 and the opcode table, and the instructions they stand for. Two clauses are
the model's choice: a table word is read as the byte offered to the PF right after reset, since R57 lets no byte alone name
a row (log entry 11), and RD is a host action between edges (log entry 15). -/
def Obligations.WrittenWordsDecode : Prop :=
  decodeTableWord 8 0xFE = some .pfStart ∧
  decodePfByte ⟨2, 2⟩ { PfState.reset with st := .awaitCount } 0x03 = .pfCount 3 ∧
  decodePfByte ⟨2, 2⟩ { PfState.reset with st := .awaitPacketByte, cur := 1 } 0xF5 = .pfPayloadLast 0xF5 ∧
  decodePfByte ⟨2, 2⟩ { PfState.reset with st := .awaitEnd } 0xFF = .pfEnd ∧
  decodeGfByte ⟨2, 2⟩ { GfState.reset with st := .awaitEndHigh } 0x01 = .gfEndHi 1 ∧
  decodeGfByte ⟨2, 2⟩ { GfState.reset with st := .awaitChecksum, r := 1, acc := 0x0B, grp := 1 } 0x0B = .gfChkGroupLast 0x0B ∧
  decode ⟨2, 2⟩ State.reset (.read .gf 9) = [.rd .gf 9]

/-- The step performs exactly the instructions its host action selects, after taking the action off the host's list and
counting an edge (log entries 2, 3 and 4 say that these are the model's own), when neither unit holds an unused code. -/
def Obligations.StepRunsDecoded : Prop :=
  ∀ (s : State) (a : HostAct) (rest : List HostAct), s.host = a :: rest →
    s.pf.st.used = true → s.gf.st.used = true →
    let s' : State := { s with host := rest, tick := if a.isEdge then s.tick + 1 else s.tick }
    (decode params s a = [] → step s = .next s') ∧
    (∀ i, decode params s a = [i] → step s = exec i s') ∧
    (∀ i j t, decode params s a = [i, j] → exec i s' = .next t → step s = exec j t)

/-- R98: what happens to the PF at an edge, in priority order: reset, acknowledge, one transaction-level step on the offered
byte (R68), and otherwise no change but for the recovery of an unused code (R28). -/
def Obligations.PfEdgePriority : Prop :=
  ∀ (s : State) (p g : PortIn) (rest : List HostAct), s.host = .edge p g :: rest →
    ∃ t, step s = .next t ∧ t.host = rest ∧
      t.pf =
        if p.rst then PfState.reset
        else if s.pf.evValid && p.evtReady then { s.pf with evValid := false }
        else if p.inValid && !s.pf.evValid then (pfTxn params s.pf p.inData).1
        else { s.pf with st := s.pf.st.effective }

/-- R98: what happens to the GF at an edge, in priority order: reset, acknowledge, one transaction-level step on the offered
byte (R80), and otherwise no change but for the recovery of an unused code (R28). -/
def Obligations.GfEdgePriority : Prop :=
  ∀ (s : State) (p g : PortIn) (rest : List HostAct), s.host = .edge p g :: rest →
    ∃ t, step s = .next t ∧ t.host = rest ∧
      t.gf =
        if g.rst then GfState.reset
        else if s.gf.evValid && g.evtReady then { s.gf with evValid := false }
        else if g.inValid && !s.gf.evValid then (gfTxn params s.gf g.inData).1
        else { s.gf with st := s.gf.st.effective, grp := if s.gf.st.used then s.gf.grp else 0 }

/-- R58, R107: no state and no input makes the machine trap, halt or refuse: every step gives a next state. -/
def Obligations.StepNeverStops : Prop :=
  ∀ s : State, ∃ t, step s = .next t

/-- R47: a unit's next state depends on its own state and inputs alone, whatever the other unit holds or is driven with. -/
def Obligations.UnitsAreIndependent : Prop :=
  ∀ s₁ s₂ t₁ t₂ : State, step s₁ = .next t₁ → step s₂ = .next t₂ → (fetch s₁).isEdge = (fetch s₂).isEdge →
    (s₁.pf = s₂.pf → (fetch s₁).pfIn = (fetch s₂).pfIn → t₁.pf = t₂.pf) ∧
    (s₁.gf = s₂.gf → (fetch s₁).gfIn = (fetch s₂).gfIn → t₁.gf = t₂.gf)

/-- R28: at an edge with no reset and no acknowledge, an unused code acts as AwaitStart: an accepted 0xFE moves the unit to
its state 1, any other byte or none to AwaitStart; the GF clears grp; nothing else in the unit changes. -/
def Obligations.UnusedCodeActsAsAwaitStart : Prop :=
  ∀ (s : State) (p g : PortIn) (rest : List HostAct), s.host = .edge p g :: rest →
    ∃ t, step s = .next t ∧
      (∀ n, s.pf.st = .unused n → p.rst = false → (s.pf.evValid && p.evtReady) = false →
        t.pf = { s.pf with
          st := if p.inValid && !s.pf.evValid && p.inData = startByte then .awaitCount else .awaitStart }) ∧
      (∀ n, s.gf.st = .unused n → g.rst = false → (s.gf.evValid && g.evtReady) = false →
        t.gf = { s.gf with
          grp := 0
          st := if g.inValid && !s.gf.evValid && g.inData = startByte then .awaitRangeCount else .awaitStart })

/-! ### Reset, status and parameters -/

/-- R33: every piece of the block's state after reset. -/
def Obligations.ResetValues : Prop :=
  State.reset.pf =
    { st := .awaitStart, n := 0, rem := 0, cur := 0, acc := 0, pbuf := [], evValid := false, evN := 0 } ∧
  State.reset.gf =
    { st := .awaitStart, r := 0, k := 0, lo := 0, acc := 0, grp := 0, rbuf := [], evValid := false, evR := 0, evGi := 0 }

/-- R27, R105: the status outputs show the code of the control state; no two states share a code, and the named states have
the codes of the table. -/
def Obligations.StatusCodes : Prop :=
  (∀ s : State, s.pfStatus = s.pf.st.code ∧ s.gfStatus = s.gf.st.code) ∧
  (∀ x y : PfSt, x.code = y.code → x = y) ∧ (∀ x y : GfSt, x.code = y.code → x = y) ∧
  [PfSt.awaitStart, .awaitCount, .awaitPacketByte, .awaitChecksum, .awaitEnd].map PfSt.code = [0, 1, 2, 3, 4] ∧
  [GfSt.awaitStart, .awaitRangeCount, .awaitStartLow, .awaitStartHigh, .awaitEndLow, .awaitEndHigh, .awaitChecksum,
    .awaitEnd, .terminal].map GfSt.code = [0, 1, 2, 3, 4, 5, 6, 7, 8]

/-- R101, R102: the outputs of both units: in_ready is NOT ev_valid, evt_valid is ev_valid, and while an event is pending
evt_count and evt_group_index show its fields. -/
def Obligations.HandshakeOutputs : Prop :=
  ∀ s : State,
    s.pfInReady = !s.pf.evValid ∧ s.gfInReady = !s.gf.evValid ∧
    s.pfEvtValid = s.pf.evValid ∧ s.gfEvtValid = s.gf.evValid ∧
    (s.pf.evValid = true → s.pfEvtCount = s.pf.evN) ∧
    (s.gf.evValid = true → s.gfEvtCount = s.gf.evR ∧ s.gfEvtGroupIndex = s.gf.evGi)

/-- R6, R7: a build exists exactly for BPP at least 1 and G from 1 to 255, and the machine's parameters, opaque by the
model's choice (log entry 1), are such. -/
def Obligations.BuildAcceptsLegalParameters : Prop :=
  (∀ b g : Nat, (∃ c, Params.build b g = some c) ↔ 1 ≤ b ∧ 1 ≤ g ∧ g ≤ 255) ∧
  Params.build params.bpp params.groups = some params

/-! ### Whole-machine rules -/

/-- The invariant of R30 and R31 holds at reset. -/
def Obligations.InvariantAtReset : Prop := State.reset.Inv

/-- R30, R31: every step keeps the invariant, from every state that has it. -/
def Obligations.StepKeepsInvariant : Prop :=
  ∀ s t : State, s.Inv → step s = .next t → t.Inv

/-- R32: an event emitted from a state of the invariant carries only elements that have been written, as many as R32 says. -/
def Obligations.EventPayloadIsWritten : Prop :=
  ∀ c : Params, c.legal →
    (∀ (u : PfState) (b : Byte) (e : Eom), PfInv c u → u.evValid = false → (pfTxn c u b).2 = some e →
      e.payload.length = u.n.toNat * c.bpp ∧ e.count = u.n ∧ ∀ o ∈ e.payload, o.isSome = true) ∧
    (∀ (u : GfState) (b : Byte) (e : Grp), GfInv c u → u.evValid = false → (gfTxn c u b).2 = some e →
      e.ranges.length = 2 * u.r.toNat ∧ e.count = u.r ∧ e.groupIndex = u.grp ∧ ∀ o ∈ e.ranges, o.isSome = true)

/-- R48, R104: in a state of the invariant with an event pending, a read at every address below the payload length gives
the element the buffer holds there (kept where log entry 5 says). -/
def Obligations.PendingPayloadIsReadable : Prop :=
  ∀ (s : State) (a : Nat), s.Inv →
    (s.pf.evValid = true → a < s.pf.evN.toNat * params.bpp →
      ∃ v, s.pf.pbuf.read a = some v ∧ exec (.rd .pf a) s = .next { s with pfRd := v }) ∧
    (s.gf.evValid = true → a < 2 * s.gf.evR.toNat →
      ∃ v, s.gf.rbuf.read a = some v ∧ exec (.rd .gf a) s = .next { s with gfRd := v })

/-- R68, R80, R102: an event becomes pending only by PF.END (in the PF) and by GF.CHK_GROUP_NEXT or GF.CHK_GROUP_LAST (in
the GF). -/
def Obligations.OnlyCompletionsRaiseEvents : Prop :=
  ∀ (i : Instr) (s t : State), exec i s = .next t →
    (s.pf.evValid = false → t.pf.evValid = true → i = .pfEnd) ∧
    (s.gf.evValid = false → t.gf.evValid = true → ∃ b, i = .gfChkGroupNext b ∨ i = .gfChkGroupLast b)

/-- The "written by" columns of R17 and R21, and R16, R18, R19, R20, R22 and R23, with reset: an instruction that changes a
control state, a datapath register, an event register or an event-pending flag, or that gives a buffer element a value, is
one of those the spec lists for it. -/
def Obligations.RegistersHaveListedWriters : Prop :=
  ∀ (i : Instr) (s t : State), exec i s = .next t →
    (t.pf.st ≠ s.pf.st → i = .reset .pf ∨ ∃ b, i.byte? = some (.pf, b)) ∧
    (t.pf.n ≠ s.pf.n → i = .reset .pf ∨ i = .pfCountZero ∨ ∃ b, i = .pfCount b) ∧
    (t.pf.rem ≠ s.pf.rem → i = .reset .pf ∨ i = .pfCountZero ∨
      ∃ b, i = .pfCount b ∨ i = .pfChkNext b ∨ i = .pfChkLast b) ∧
    (t.pf.cur ≠ s.pf.cur → i = .reset .pf ∨ i = .pfCountZero ∨
      ∃ b, i = .pfCount b ∨ i = .pfPayload b ∨ i = .pfPayloadLast b) ∧
    (t.pf.acc ≠ s.pf.acc → i = .reset .pf ∨ i = .pfCountZero ∨
      ∃ b, i = .pfCount b ∨ i = .pfPayload b ∨ i = .pfPayloadLast b ∨ i = .pfChkNext b ∨ i = .pfChkLast b) ∧
    ((∃ a v, t.pf.pbuf.read a = some v ∧ s.pf.pbuf.read a ≠ some v) → ∃ b, i = .pfPayload b ∨ i = .pfPayloadLast b) ∧
    (s.pf.evValid = false → t.pf.evValid = true → i = .pfEnd) ∧
    (s.pf.evValid = true → t.pf.evValid = false → i = .reset .pf ∨ i = .evtAck .pf) ∧
    (t.pf.evN ≠ s.pf.evN → i = .reset .pf ∨ i = .pfEnd) ∧
    (t.gf.st ≠ s.gf.st → i = .reset .gf ∨ ∃ b, i.byte? = some (.gf, b)) ∧
    (t.gf.r ≠ s.gf.r → i = .reset .gf ∨ i = .gfRcountZero ∨ ∃ b, i = .gfRcount b) ∧
    (t.gf.k ≠ s.gf.k → i = .reset .gf ∨ i = .gfRcountZero ∨
      ∃ b, i = .gfRcount b ∨ i = .gfChkRangeNext b ∨ i = .gfChkGroupNext b ∨ i = .gfChkGroupLast b) ∧
    (t.gf.lo ≠ s.gf.lo → i = .reset .gf ∨ ∃ b, i = .gfStartLo b ∨ i = .gfEndLo b) ∧
    (t.gf.acc ≠ s.gf.acc → i = .reset .gf ∨ i = .gfRcountZero ∨
      ∃ b, i = .gfRcount b ∨ i = .gfStartLo b ∨ i = .gfStartHi b ∨ i = .gfEndLo b ∨ i = .gfEndHi b ∨
        i = .gfChkRangeNext b) ∧
    (t.gf.grp ≠ s.gf.grp → i = .reset .gf ∨
      ∃ b, i = .gfChkGroupNext b ∨ i = .gfChkGroupLast b ∨ i = .gfChkFail b) ∧
    ((∃ a v, t.gf.rbuf.read a = some v ∧ s.gf.rbuf.read a ≠ some v) → ∃ b, i = .gfStartHi b ∨ i = .gfEndHi b) ∧
    (s.gf.evValid = false → t.gf.evValid = true → ∃ b, i = .gfChkGroupNext b ∨ i = .gfChkGroupLast b) ∧
    (s.gf.evValid = true → t.gf.evValid = false → i = .reset .gf ∨ i = .evtAck .gf) ∧
    (t.gf.evR ≠ s.gf.evR ∨ t.gf.evGi ≠ s.gf.evGi → i = .reset .gf ∨
      ∃ b, i = .gfChkGroupNext b ∨ i = .gfChkGroupLast b)

/-- R101, R120: a pending event holds its unit: over any number of steps that neither acknowledge nor reset it, the unit does
not change, whatever bytes are offered. -/
def Obligations.PendingEventHoldsUnit : Prop :=
  ∀ (n : Nat) (s : State),
    (s.pf.evValid = true → s.pf.st.used = true →
      (∀ a ∈ s.host.take n, a.pfIn.rst = false ∧ a.pfIn.evtReady = false) →
      ∃ t, Host.Core.run Sys2Proof.core n s = .next t ∧ t.pf = s.pf) ∧
    (s.gf.evValid = true → s.gf.st.used = true →
      (∀ a ∈ s.host.take n, a.gfIn.rst = false ∧ a.gfIn.evtReady = false) →
      ∃ t, Host.Core.run Sys2Proof.core n s = .next t ∧ t.gf = s.gf)

/-- R96, R131: in Terminal the GF ignores every byte over any number of steps, without stalling and with no event, until it
is reset. -/
def Obligations.TerminalIsAbsorbing : Prop :=
  ∀ (n : Nat) (s : State), s.gf.st = .terminal → s.gf.evValid = false →
    (∀ a ∈ s.host.take n, a.gfIn.rst = false) →
    ∃ t, Host.Core.run Sys2Proof.core n s = .next t ∧ t.gf = s.gf

/-- R60, R129: in AwaitEnd every byte but 0xFF leaves the PF as it is, however many arrive; the 0xFF that ends the wait
emits EOM with the earlier message's payload and count. -/
def Obligations.LostEndKeepsMessage : Prop :=
  ∀ (c : Params) (u : PfState) (bs : List Byte), u.st = .awaitEnd → u.evValid = false → (∀ b ∈ bs, b ≠ endByte) →
    pfTxns c u bs = (u, []) ∧
    (pfTxns c u (bs ++ [endByte])).2 =
      [{ payload := (List.range (u.n.toNat * c.bpp)).map u.pbuf.read, count := u.n }]

/-- R29, R124: from AwaitStart (with no group completed, for the GF), the events of a byte stream and the states the units
pass to do not depend on what any datapath register, event register or buffer holds: earlier messages leave no trace. -/
def Obligations.EarlierContentsUnobservable : Prop :=
  ∀ (c : Params) (bs : List Byte),
    (∀ u : PfState, u.st = .awaitStart →
      (pfTxns c u bs).2 = (pfTxns c PfState.reset bs).2 ∧ (pfTxns c u bs).1.st = (pfTxns c PfState.reset bs).1.st) ∧
    (∀ u : GfState, u.st = .awaitStart → u.grp = 0 →
      (gfTxns c u bs).2 = (gfTxns c GfState.reset bs).2 ∧ (gfTxns c u bs).1.st = (gfTxns c GfState.reset bs).1.st)

/-! ### The datapath -/

/-- R64: after ACC_LOAD(c) and ACC_ADD of the bytes of a list, the accumulator is sum8 of c and the list, which is the
integer sum modulo 256. -/
def Obligations.AccumulatorHoldsSum : Prop :=
  ∀ (v : Byte) (bs : List Byte),
    bs.foldl accAdd (accLoad v) = sum8 (v :: bs) ∧
    (sum8 (v :: bs)).toNat = (v.toNat + (bs.map BitVec.toNat).sum) % 256

/-- R65: the sum detects the change of any one byte to another value, and does not see a reordering. -/
def Obligations.SumDetectsOneByte : Prop :=
  (∀ (pre post : List Byte) (b b' : Byte), b ≠ b' → sum8 (pre ++ b :: post) ≠ sum8 (pre ++ b' :: post)) ∧
  (∀ bs cs : List Byte, bs.Perm cs → sum8 bs = sum8 cs)

/-- R66, R37: the pair of a high byte and a low byte is high × 256 + low, and every slot value is such a pair in one way. -/
def Obligations.PairIsHighTimes256PlusLow : Prop :=
  (∀ hi lo : Byte, (pairHigh hi lo).toNat = hi.toNat * 256 + lo.toNat) ∧
  (∀ v : Slot, ∃ hi lo : Byte, pairHigh hi lo = v ∧ ∀ hi' lo', pairHigh hi' lo' = v → hi' = hi ∧ lo' = lo)

/-! ### Messages -/

/-- R54: a valid packet message, fed to a PF in AwaitStart, gives exactly one event, EOM with the payload bytes in arrival
order and the packet count, and returns the PF to AwaitStart. -/
def Obligations.PacketMessageDecodes : Prop :=
  ∀ (c : Params) (u : PfState) (ps : List (List Byte)), c.legal → u.st = .awaitStart → ps.length ≤ 255 →
    (∀ p ∈ ps, p.length = c.bpp) →
    (pfTxns c u (pktMsg ps)).2 = [{ payload := ps.flatten.map some, count := BitVec.ofNat 8 ps.length }] ∧
    (pfTxns c u (pktMsg ps)).1.st = .awaitStart

/-- R75: a packet message with one wrong checksum byte, after any number of right packets, gives no event, and the PF is
in AwaitStart right after the wrong byte. -/
def Obligations.CorruptChecksumAborts : Prop :=
  ∀ (c : Params) (u : PfState) (n b : Byte) (ps : List (List Byte)) (p : List Byte), c.legal → u.st = .awaitStart →
    ps.length < n.toNat → (∀ q ∈ ps, q.length = c.bpp) → p.length = c.bpp → b ≠ sum8 p →
    (pfTxns c u (startByte :: n :: (ps.flatMap packetBytes ++ p ++ [b]))).2 = [] ∧
    (pfTxns c u (startByte :: n :: (ps.flatMap packetBytes ++ p ++ [b]))).1.st = .awaitStart

/-- R55: a valid group-setup message of G groups, fed to a GF in AwaitStart with no group completed, gives one event per
group in order, GRP with the group's slots, its range count and its index, and ends in Terminal. -/
def Obligations.GroupMessageDecodes : Prop :=
  ∀ (c : Params) (u : GfState) (gs : List (List (Slot × Slot))), c.legal → u.st = .awaitStart → u.grp = 0 →
    gs.length = c.groups → (∀ q ∈ gs, q.length ≤ 255) →
    (gfTxns c u (grpMsg gs)).2 = gs.mapIdx (fun i q =>
      { ranges := (rangeSlots q).map some, count := BitVec.ofNat 8 q.length, groupIndex := BitVec.ofNat 8 i }) ∧
    (gfTxns c u (grpMsg gs)).1.st = .terminal

/-! ### Refinement -/

/-- R106, for the PF: in a run from the PF's reset state with no further reset of it, the events it sets pending are those
the transaction-level steps emit on the bytes it accepts; its state is the transaction level's, up to the acknowledge of
the last event; and it is exactly that right after each accepted byte. -/
def Obligations.PfRunRefinesTransactions : Prop :=
  ∀ (n : Nat) (s : State), s.pf = PfState.reset → (∀ a ∈ s.host.take n, a.pfIn.rst = false) →
    let w := watchPf n s
    let r := pfTxns params PfState.reset w.2.1
    w.2.2 = r.2 ∧ (w.1.pf = r.1 ∨ r.1.evValid = true ∧ w.1.pf = r.1.ack) ∧
    ∀ b t, pfAccepts w.1.pf (fetch w.1).pfIn = some b → step w.1 = .next t →
      t.pf = (pfTxns params PfState.reset (w.2.1 ++ [b])).1

/-- R106, for the GF: in a run from the GF's reset state with no further reset of it, the events it sets pending are those
the transaction-level steps emit on the bytes it accepts; its state is the transaction level's, up to the acknowledge of
the last event; and it is exactly that right after each accepted byte. -/
def Obligations.GfRunRefinesTransactions : Prop :=
  ∀ (n : Nat) (s : State), s.gf = GfState.reset → (∀ a ∈ s.host.take n, a.gfIn.rst = false) →
    let w := watchGf n s
    let r := gfTxns params GfState.reset w.2.1
    w.2.2 = r.2 ∧ (w.1.gf = r.1 ∨ r.1.evValid = true ∧ w.1.gf = r.1.ack) ∧
    ∀ b t, gfAccepts w.1.gf (fetch w.1).gfIn = some b → step w.1 = .next t →
      t.gf = (gfTxns params GfState.reset (w.2.1 ++ [b])).1
end

