-- ==== Sys2Proof/Laws/Memory.lean ====
section
/-! SUPPORT. The buffers: what a read gives after a write, that every operation keeps the canonical form, and the sums and
slices over them. -/

namespace Sys2Proof.Machine

open Sys2Proof.Config

@[simp] theorem Memory.read_nil {w : Nat} (i : Nat) : Memory.read ([] : Memory w) i = none := rfl

@[simp] theorem Memory.read_unspecified (w i : Nat) : (Memory.unspecified w).read i = none := rfl

/-- All that `insert` does to reads. -/
theorem Memory.read_insert {w : Nat} (m : Memory w) (i a : Nat) (v : BitVec w) :
    (m.insert i v).read a = if a = i then some v else m.read a := by
  induction m with
  | nil => simp [Memory.insert, Memory.read]
  | cons p m ih =>
    obtain ⟨j, x⟩ := p
    simp only [Memory.insert]
    split
    · simp [Memory.read]
    · split
      · rename_i h
        subst h
        by_cases ha : a = i <;> simp [Memory.read, ha]
      · by_cases ha : a = j
        · subst ha
          simp only [Memory.read, if_true]
          rw [if_neg (by omega)]
        · simp [Memory.read, ha, ih]

/-- All that `write` does to reads: the written element, if its index is valid, and no other. -/
theorem Memory.read_write {w : Nat} (cap : Nat) (m : Memory w) (i a : Nat) (v : BitVec w) :
    (m.write cap i v).read a = if a = i ∧ i < cap then some v else m.read a := by
  unfold Memory.write
  by_cases h : i < cap <;> simp [h, Memory.read_insert]

/-- A write at a valid index is an insertion. -/
theorem Memory.write_of_lt {w : Nat} {cap i : Nat} (m : Memory w) (v : BitVec w) (h : i < cap) :
    m.write cap i v = m.insert i v := if_pos h

/-- A write beyond the valid range changes nothing (20_memory R43). -/
theorem Memory.write_of_le {w : Nat} {cap i : Nat} (m : Memory w) (v : BitVec w) (h : cap ≤ i) :
    m.write cap i v = m := if_neg (Nat.not_lt.2 h)

/-- An element that held a value still holds one after a write. -/
theorem Memory.isSome_read_write {w : Nat} (cap : Nat) (m : Memory w) (i a : Nat) (v : BitVec w)
    (h : (m.read a).isSome = true) : ((m.write cap i v).read a).isSome = true := by
  rw [Memory.read_write]
  split <;> simp [h]

@[simp] theorem Memory.wf_nil {w : Nat} (cap : Nat) : Memory.wf cap ([] : Memory w) = true := rfl

@[simp] theorem Memory.wf_unspecified (cap w : Nat) : (Memory.unspecified w).wf cap = true := rfl

/-- The canonical form of a nonempty list, unfolded once. -/
theorem Memory.wf_cons {w : Nat} (cap i : Nat) (x : BitVec w) (m : Memory w) :
    Memory.wf cap ((i, x) :: m) = true ↔ i < cap ∧ (∀ p ∈ m, i < p.1) ∧ Memory.wf cap m = true := by
  simp [Memory.wf, and_assoc]

/-- The entries after an insertion are the old ones and the new one. -/
theorem Memory.mem_insert {w : Nat} (m : Memory w) (i : Nat) (v : BitVec w) (p : Nat × BitVec w)
    (h : p ∈ m.insert i v) : p = (i, v) ∨ p ∈ m := by
  induction m with
  | nil => simpa [Memory.insert] using h
  | cons q m ih =>
    obtain ⟨j, x⟩ := q
    simp only [Memory.insert] at h
    split at h
    · simpa using h
    · split at h <;> rcases List.mem_cons.1 h with h | h <;> simp_all
      tauto

/-- `insert` at a valid index keeps the canonical form. -/
theorem Memory.wf_insert {w : Nat} (cap : Nat) (m : Memory w) (i : Nat) (v : BitVec w) (hi : i < cap)
    (h : m.wf cap = true) : (m.insert i v).wf cap = true := by
  induction m with
  | nil => simpa [Memory.insert, Memory.wf] using hi
  | cons q m ih =>
    obtain ⟨j, x⟩ := q
    obtain ⟨hj, hall, hm⟩ := (Memory.wf_cons cap j x m).1 h
    simp only [Memory.insert]
    split
    · refine (Memory.wf_cons ..).2 ⟨hi, fun p hp => ?_, h⟩
      rcases List.mem_cons.1 hp with rfl | hp
      · assumption
      · exact lt_trans ‹i < j› (hall p hp)
    · split
      · subst i
        exact (Memory.wf_cons ..).2 ⟨hj, hall, hm⟩
      · refine (Memory.wf_cons ..).2 ⟨hj, fun p hp => ?_, ih hm⟩
        rcases Memory.mem_insert m i v p hp with rfl | hp
        · show j < i
          omega
        · exact hall p hp

/-- `write` keeps the canonical form. -/
theorem Memory.wf_write {w : Nat} (cap : Nat) (m : Memory w) (i : Nat) (v : BitVec w) (h : m.wf cap = true) :
    (m.write cap i v).wf cap = true := by
  unfold Memory.write
  split
  · exact Memory.wf_insert cap m i v ‹_› h
  · exact h

/-- The buffers of the reset state are in canonical form. -/
theorem reset_buffers_wf (c : Params) :
    State.reset.pf.pbuf.wf (pbufCap c) = true ∧ State.reset.gf.rbuf.wf rbufCap = true := ⟨rfl, rfl⟩

/-! ### Sums and slices -/

@[simp] theorem sum8_nil : sum8 [] = 0 := rfl

theorem foldl_add_eq (bs : List Byte) (a : Byte) : bs.foldl (· + ·) a = a + bs.foldl (· + ·) 0 := by
  induction bs generalizing a with
  | nil => simp
  | cons b bs ih => rw [List.foldl_cons, List.foldl_cons, ih, ih (0 + b)]; simp [BitVec.add_assoc]

@[simp] theorem sum8_cons (b : Byte) (bs : List Byte) : sum8 (b :: bs) = b + sum8 bs := by
  simp [sum8, foldl_add_eq bs b]

@[simp] theorem sum8_append (bs cs : List Byte) : sum8 (bs ++ cs) = sum8 bs + sum8 cs := by
  induction bs with
  | nil => simp
  | cons b bs ih => simp [ih, BitVec.add_assoc]

@[simp] theorem Memory.slice_zero {w : Nat} (m : Memory w) (a : Nat) : m.slice a 0 = [] := rfl

/-- A slice that is one element longer. -/
theorem Memory.slice_succ {w : Nat} (m : Memory w) (a len : Nat) :
    m.slice a (len + 1) = m.slice a len ++ [m.read (a + len)] := by
  simp [Memory.slice, List.range_succ]

/-- Two buffers with the same elements from `a` to `a + len − 1` have the same slice. -/
theorem Memory.slice_congr {w : Nat} (m m' : Memory w) (a len : Nat)
    (h : ∀ i, i < len → m.read (a + i) = m'.read (a + i)) : m.slice a len = m'.slice a len := by
  unfold Memory.slice
  exact List.map_congr_left fun i hi => h i (List.mem_range.1 hi)

@[simp] theorem Memory.sumFrom_zero (m : Memory 8) (a : Nat) : m.sumFrom a 0 = 0 := rfl

/-- A sum that takes one more element. -/
theorem Memory.sumFrom_succ (m : Memory 8) (a len : Nat) :
    m.sumFrom a (len + 1) = m.sumFrom a len + (m.read (a + len)).getD 0 := by
  simp [Memory.sumFrom, Memory.slice_succ]

/-- Two buffers with the same elements from `a` to `a + len − 1` have the same sum. -/
theorem Memory.sumFrom_congr (m m' : Memory 8) (a len : Nat)
    (h : ∀ i, i < len → m.read (a + i) = m'.read (a + i)) : m.sumFrom a len = m'.sumFrom a len := by
  simp [Memory.sumFrom, Memory.slice_congr m m' a len h]

end Sys2Proof.Machine
end

