-- ==== Sys2Proof/Laws/State.lean ====
section
/-! SUPPORT. One lemma per field per update of the states, so that no proof unfolds a record update. -/

namespace Sys2Proof.Machine

open Sys2Proof.Config

/-! `PfState.setSt` -/

@[simp] theorem PfState.setSt_st (u : PfState) (x : PfSt) :
    (u.setSt x).st = x := rfl
@[simp] theorem PfState.setSt_n (u : PfState) (x : PfSt) :
    (u.setSt x).n = u.n := rfl
@[simp] theorem PfState.setSt_rem (u : PfState) (x : PfSt) :
    (u.setSt x).rem = u.rem := rfl
@[simp] theorem PfState.setSt_cur (u : PfState) (x : PfSt) :
    (u.setSt x).cur = u.cur := rfl
@[simp] theorem PfState.setSt_acc (u : PfState) (x : PfSt) :
    (u.setSt x).acc = u.acc := rfl
@[simp] theorem PfState.setSt_pbuf (u : PfState) (x : PfSt) :
    (u.setSt x).pbuf = u.pbuf := rfl
@[simp] theorem PfState.setSt_evValid (u : PfState) (x : PfSt) :
    (u.setSt x).evValid = u.evValid := rfl
@[simp] theorem PfState.setSt_evN (u : PfState) (x : PfSt) :
    (u.setSt x).evN = u.evN := rfl

/-! `PfState.loadCount` -/

@[simp] theorem PfState.loadCount_st (u : PfState) (b : Byte) :
    (u.loadCount b).st = u.st := rfl
@[simp] theorem PfState.loadCount_n (u : PfState) (b : Byte) :
    (u.loadCount b).n = b := rfl
@[simp] theorem PfState.loadCount_rem (u : PfState) (b : Byte) :
    (u.loadCount b).rem = b := rfl
@[simp] theorem PfState.loadCount_cur (u : PfState) (b : Byte) :
    (u.loadCount b).cur = 0 := rfl
@[simp] theorem PfState.loadCount_acc (u : PfState) (b : Byte) :
    (u.loadCount b).acc = 0 := rfl
@[simp] theorem PfState.loadCount_pbuf (u : PfState) (b : Byte) :
    (u.loadCount b).pbuf = [] := rfl
@[simp] theorem PfState.loadCount_evValid (u : PfState) (b : Byte) :
    (u.loadCount b).evValid = u.evValid := rfl
@[simp] theorem PfState.loadCount_evN (u : PfState) (b : Byte) :
    (u.loadCount b).evN = u.evN := rfl

/-! `PfState.storePayload` -/

@[simp] theorem PfState.storePayload_st (c : Params) (u : PfState) (b : Byte) :
    (u.storePayload c b).st = u.st := rfl
@[simp] theorem PfState.storePayload_n (c : Params) (u : PfState) (b : Byte) :
    (u.storePayload c b).n = u.n := rfl
@[simp] theorem PfState.storePayload_rem (c : Params) (u : PfState) (b : Byte) :
    (u.storePayload c b).rem = u.rem := rfl
@[simp] theorem PfState.storePayload_cur (c : Params) (u : PfState) (b : Byte) :
    (u.storePayload c b).cur = curNext c u.cur := rfl
@[simp] theorem PfState.storePayload_acc (c : Params) (u : PfState) (b : Byte) :
    (u.storePayload c b).acc = u.acc + b := rfl
@[simp] theorem PfState.storePayload_pbuf (c : Params) (u : PfState) (b : Byte) :
    (u.storePayload c b).pbuf = u.pbuf.write (pbufCap c) u.cur b := rfl
@[simp] theorem PfState.storePayload_evValid (c : Params) (u : PfState) (b : Byte) :
    (u.storePayload c b).evValid = u.evValid := rfl
@[simp] theorem PfState.storePayload_evN (c : Params) (u : PfState) (b : Byte) :
    (u.storePayload c b).evN = u.evN := rfl

/-! `PfState.nextPacket` -/

@[simp] theorem PfState.nextPacket_st (u : PfState) :
    (u.nextPacket).st = u.st := rfl
@[simp] theorem PfState.nextPacket_n (u : PfState) :
    (u.nextPacket).n = u.n := rfl
@[simp] theorem PfState.nextPacket_rem (u : PfState) :
    (u.nextPacket).rem = u.rem - 1 := rfl
@[simp] theorem PfState.nextPacket_cur (u : PfState) :
    (u.nextPacket).cur = u.cur := rfl
@[simp] theorem PfState.nextPacket_acc (u : PfState) :
    (u.nextPacket).acc = 0 := rfl
@[simp] theorem PfState.nextPacket_pbuf (u : PfState) :
    (u.nextPacket).pbuf = u.pbuf := rfl
@[simp] theorem PfState.nextPacket_evValid (u : PfState) :
    (u.nextPacket).evValid = u.evValid := rfl
@[simp] theorem PfState.nextPacket_evN (u : PfState) :
    (u.nextPacket).evN = u.evN := rfl

/-! `PfState.lastPacket` -/

@[simp] theorem PfState.lastPacket_st (u : PfState) :
    (u.lastPacket).st = u.st := rfl
@[simp] theorem PfState.lastPacket_n (u : PfState) :
    (u.lastPacket).n = u.n := rfl
@[simp] theorem PfState.lastPacket_rem (u : PfState) :
    (u.lastPacket).rem = 0 := rfl
@[simp] theorem PfState.lastPacket_cur (u : PfState) :
    (u.lastPacket).cur = u.cur := rfl
@[simp] theorem PfState.lastPacket_acc (u : PfState) :
    (u.lastPacket).acc = 0 := rfl
@[simp] theorem PfState.lastPacket_pbuf (u : PfState) :
    (u.lastPacket).pbuf = u.pbuf := rfl
@[simp] theorem PfState.lastPacket_evValid (u : PfState) :
    (u.lastPacket).evValid = u.evValid := rfl
@[simp] theorem PfState.lastPacket_evN (u : PfState) :
    (u.lastPacket).evN = u.evN := rfl

/-! `PfState.abort` -/

@[simp] theorem PfState.abort_st (u : PfState) :
    (u.abort).st = .awaitStart := rfl
@[simp] theorem PfState.abort_n (u : PfState) :
    (u.abort).n = u.n := rfl
@[simp] theorem PfState.abort_rem (u : PfState) :
    (u.abort).rem = u.rem := rfl
@[simp] theorem PfState.abort_cur (u : PfState) :
    (u.abort).cur = u.cur := rfl
@[simp] theorem PfState.abort_acc (u : PfState) :
    (u.abort).acc = u.acc := rfl
@[simp] theorem PfState.abort_pbuf (u : PfState) :
    (u.abort).pbuf = u.pbuf := rfl
@[simp] theorem PfState.abort_evValid (u : PfState) :
    (u.abort).evValid = u.evValid := rfl
@[simp] theorem PfState.abort_evN (u : PfState) :
    (u.abort).evN = u.evN := rfl

/-! `PfState.raiseEom` -/

@[simp] theorem PfState.raiseEom_st (u : PfState) :
    (u.raiseEom).st = u.st := rfl
@[simp] theorem PfState.raiseEom_n (u : PfState) :
    (u.raiseEom).n = u.n := rfl
@[simp] theorem PfState.raiseEom_rem (u : PfState) :
    (u.raiseEom).rem = u.rem := rfl
@[simp] theorem PfState.raiseEom_cur (u : PfState) :
    (u.raiseEom).cur = u.cur := rfl
@[simp] theorem PfState.raiseEom_acc (u : PfState) :
    (u.raiseEom).acc = u.acc := rfl
@[simp] theorem PfState.raiseEom_pbuf (u : PfState) :
    (u.raiseEom).pbuf = u.pbuf := rfl
@[simp] theorem PfState.raiseEom_evValid (u : PfState) :
    (u.raiseEom).evValid = true := rfl
@[simp] theorem PfState.raiseEom_evN (u : PfState) :
    (u.raiseEom).evN = u.n := rfl

/-! `PfState.ack` -/

@[simp] theorem PfState.ack_st (u : PfState) :
    (u.ack).st = u.st := rfl
@[simp] theorem PfState.ack_n (u : PfState) :
    (u.ack).n = u.n := rfl
@[simp] theorem PfState.ack_rem (u : PfState) :
    (u.ack).rem = u.rem := rfl
@[simp] theorem PfState.ack_cur (u : PfState) :
    (u.ack).cur = u.cur := rfl
@[simp] theorem PfState.ack_acc (u : PfState) :
    (u.ack).acc = u.acc := rfl
@[simp] theorem PfState.ack_pbuf (u : PfState) :
    (u.ack).pbuf = u.pbuf := rfl
@[simp] theorem PfState.ack_evValid (u : PfState) :
    (u.ack).evValid = false := rfl
@[simp] theorem PfState.ack_evN (u : PfState) :
    (u.ack).evN = u.evN := rfl

/-! `GfState.setSt` -/

@[simp] theorem GfState.setSt_st (u : GfState) (x : GfSt) :
    (u.setSt x).st = x := rfl
@[simp] theorem GfState.setSt_r (u : GfState) (x : GfSt) :
    (u.setSt x).r = u.r := rfl
@[simp] theorem GfState.setSt_k (u : GfState) (x : GfSt) :
    (u.setSt x).k = u.k := rfl
@[simp] theorem GfState.setSt_lo (u : GfState) (x : GfSt) :
    (u.setSt x).lo = u.lo := rfl
@[simp] theorem GfState.setSt_acc (u : GfState) (x : GfSt) :
    (u.setSt x).acc = u.acc := rfl
@[simp] theorem GfState.setSt_grp (u : GfState) (x : GfSt) :
    (u.setSt x).grp = u.grp := rfl
@[simp] theorem GfState.setSt_rbuf (u : GfState) (x : GfSt) :
    (u.setSt x).rbuf = u.rbuf := rfl
@[simp] theorem GfState.setSt_evValid (u : GfState) (x : GfSt) :
    (u.setSt x).evValid = u.evValid := rfl
@[simp] theorem GfState.setSt_evR (u : GfState) (x : GfSt) :
    (u.setSt x).evR = u.evR := rfl
@[simp] theorem GfState.setSt_evGi (u : GfState) (x : GfSt) :
    (u.setSt x).evGi = u.evGi := rfl

/-! `GfState.loadRangeCount` -/

@[simp] theorem GfState.loadRangeCount_st (u : GfState) (b : Byte) :
    (u.loadRangeCount b).st = u.st := rfl
@[simp] theorem GfState.loadRangeCount_r (u : GfState) (b : Byte) :
    (u.loadRangeCount b).r = b := rfl
@[simp] theorem GfState.loadRangeCount_k (u : GfState) (b : Byte) :
    (u.loadRangeCount b).k = 0 := rfl
@[simp] theorem GfState.loadRangeCount_lo (u : GfState) (b : Byte) :
    (u.loadRangeCount b).lo = u.lo := rfl
@[simp] theorem GfState.loadRangeCount_acc (u : GfState) (b : Byte) :
    (u.loadRangeCount b).acc = b := rfl
@[simp] theorem GfState.loadRangeCount_grp (u : GfState) (b : Byte) :
    (u.loadRangeCount b).grp = u.grp := rfl
@[simp] theorem GfState.loadRangeCount_rbuf (u : GfState) (b : Byte) :
    (u.loadRangeCount b).rbuf = [] := rfl
@[simp] theorem GfState.loadRangeCount_evValid (u : GfState) (b : Byte) :
    (u.loadRangeCount b).evValid = u.evValid := rfl
@[simp] theorem GfState.loadRangeCount_evR (u : GfState) (b : Byte) :
    (u.loadRangeCount b).evR = u.evR := rfl
@[simp] theorem GfState.loadRangeCount_evGi (u : GfState) (b : Byte) :
    (u.loadRangeCount b).evGi = u.evGi := rfl

/-! `GfState.takeLow` -/

@[simp] theorem GfState.takeLow_st (u : GfState) (b : Byte) :
    (u.takeLow b).st = u.st := rfl
@[simp] theorem GfState.takeLow_r (u : GfState) (b : Byte) :
    (u.takeLow b).r = u.r := rfl
@[simp] theorem GfState.takeLow_k (u : GfState) (b : Byte) :
    (u.takeLow b).k = u.k := rfl
@[simp] theorem GfState.takeLow_lo (u : GfState) (b : Byte) :
    (u.takeLow b).lo = b := rfl
@[simp] theorem GfState.takeLow_acc (u : GfState) (b : Byte) :
    (u.takeLow b).acc = u.acc + b := rfl
@[simp] theorem GfState.takeLow_grp (u : GfState) (b : Byte) :
    (u.takeLow b).grp = u.grp := rfl
@[simp] theorem GfState.takeLow_rbuf (u : GfState) (b : Byte) :
    (u.takeLow b).rbuf = u.rbuf := rfl
@[simp] theorem GfState.takeLow_evValid (u : GfState) (b : Byte) :
    (u.takeLow b).evValid = u.evValid := rfl
@[simp] theorem GfState.takeLow_evR (u : GfState) (b : Byte) :
    (u.takeLow b).evR = u.evR := rfl
@[simp] theorem GfState.takeLow_evGi (u : GfState) (b : Byte) :
    (u.takeLow b).evGi = u.evGi := rfl

/-! `GfState.takeHigh` -/

@[simp] theorem GfState.takeHigh_st (u : GfState) (i : Nat) (b : Byte) :
    (u.takeHigh i b).st = u.st := rfl
@[simp] theorem GfState.takeHigh_r (u : GfState) (i : Nat) (b : Byte) :
    (u.takeHigh i b).r = u.r := rfl
@[simp] theorem GfState.takeHigh_k (u : GfState) (i : Nat) (b : Byte) :
    (u.takeHigh i b).k = u.k := rfl
@[simp] theorem GfState.takeHigh_lo (u : GfState) (i : Nat) (b : Byte) :
    (u.takeHigh i b).lo = u.lo := rfl
@[simp] theorem GfState.takeHigh_acc (u : GfState) (i : Nat) (b : Byte) :
    (u.takeHigh i b).acc = u.acc + b := rfl
@[simp] theorem GfState.takeHigh_grp (u : GfState) (i : Nat) (b : Byte) :
    (u.takeHigh i b).grp = u.grp := rfl
@[simp] theorem GfState.takeHigh_rbuf (u : GfState) (i : Nat) (b : Byte) :
    (u.takeHigh i b).rbuf = u.rbuf.write rbufCap i (pairHigh b u.lo) := rfl
@[simp] theorem GfState.takeHigh_evValid (u : GfState) (i : Nat) (b : Byte) :
    (u.takeHigh i b).evValid = u.evValid := rfl
@[simp] theorem GfState.takeHigh_evR (u : GfState) (i : Nat) (b : Byte) :
    (u.takeHigh i b).evR = u.evR := rfl
@[simp] theorem GfState.takeHigh_evGi (u : GfState) (i : Nat) (b : Byte) :
    (u.takeHigh i b).evGi = u.evGi := rfl

/-! `GfState.nextRange` -/

@[simp] theorem GfState.nextRange_st (u : GfState) :
    (u.nextRange).st = u.st := rfl
@[simp] theorem GfState.nextRange_r (u : GfState) :
    (u.nextRange).r = u.r := rfl
@[simp] theorem GfState.nextRange_k (u : GfState) :
    (u.nextRange).k = u.k + 1 := rfl
@[simp] theorem GfState.nextRange_lo (u : GfState) :
    (u.nextRange).lo = u.lo := rfl
@[simp] theorem GfState.nextRange_acc (u : GfState) :
    (u.nextRange).acc = u.r := rfl
@[simp] theorem GfState.nextRange_grp (u : GfState) :
    (u.nextRange).grp = u.grp := rfl
@[simp] theorem GfState.nextRange_rbuf (u : GfState) :
    (u.nextRange).rbuf = u.rbuf := rfl
@[simp] theorem GfState.nextRange_evValid (u : GfState) :
    (u.nextRange).evValid = u.evValid := rfl
@[simp] theorem GfState.nextRange_evR (u : GfState) :
    (u.nextRange).evR = u.evR := rfl
@[simp] theorem GfState.nextRange_evGi (u : GfState) :
    (u.nextRange).evGi = u.evGi := rfl

/-! `GfState.abort` -/

@[simp] theorem GfState.abort_st (u : GfState) :
    (u.abort).st = .awaitStart := rfl
@[simp] theorem GfState.abort_r (u : GfState) :
    (u.abort).r = u.r := rfl
@[simp] theorem GfState.abort_k (u : GfState) :
    (u.abort).k = u.k := rfl
@[simp] theorem GfState.abort_lo (u : GfState) :
    (u.abort).lo = u.lo := rfl
@[simp] theorem GfState.abort_acc (u : GfState) :
    (u.abort).acc = u.acc := rfl
@[simp] theorem GfState.abort_grp (u : GfState) :
    (u.abort).grp = 0 := rfl
@[simp] theorem GfState.abort_rbuf (u : GfState) :
    (u.abort).rbuf = u.rbuf := rfl
@[simp] theorem GfState.abort_evValid (u : GfState) :
    (u.abort).evValid = u.evValid := rfl
@[simp] theorem GfState.abort_evR (u : GfState) :
    (u.abort).evR = u.evR := rfl
@[simp] theorem GfState.abort_evGi (u : GfState) :
    (u.abort).evGi = u.evGi := rfl

/-! `GfState.raiseGrp` -/

@[simp] theorem GfState.raiseGrp_st (u : GfState) :
    (u.raiseGrp).st = u.st := rfl
@[simp] theorem GfState.raiseGrp_r (u : GfState) :
    (u.raiseGrp).r = u.r := rfl
@[simp] theorem GfState.raiseGrp_k (u : GfState) :
    (u.raiseGrp).k = u.k + 1 := rfl
@[simp] theorem GfState.raiseGrp_lo (u : GfState) :
    (u.raiseGrp).lo = u.lo := rfl
@[simp] theorem GfState.raiseGrp_acc (u : GfState) :
    (u.raiseGrp).acc = u.acc := rfl
@[simp] theorem GfState.raiseGrp_grp (u : GfState) :
    (u.raiseGrp).grp = u.grp + 1 := rfl
@[simp] theorem GfState.raiseGrp_rbuf (u : GfState) :
    (u.raiseGrp).rbuf = u.rbuf := rfl
@[simp] theorem GfState.raiseGrp_evValid (u : GfState) :
    (u.raiseGrp).evValid = true := rfl
@[simp] theorem GfState.raiseGrp_evR (u : GfState) :
    (u.raiseGrp).evR = u.r := rfl
@[simp] theorem GfState.raiseGrp_evGi (u : GfState) :
    (u.raiseGrp).evGi = u.grp := rfl

/-! `GfState.ack` -/

@[simp] theorem GfState.ack_st (u : GfState) :
    (u.ack).st = u.st := rfl
@[simp] theorem GfState.ack_r (u : GfState) :
    (u.ack).r = u.r := rfl
@[simp] theorem GfState.ack_k (u : GfState) :
    (u.ack).k = u.k := rfl
@[simp] theorem GfState.ack_lo (u : GfState) :
    (u.ack).lo = u.lo := rfl
@[simp] theorem GfState.ack_acc (u : GfState) :
    (u.ack).acc = u.acc := rfl
@[simp] theorem GfState.ack_grp (u : GfState) :
    (u.ack).grp = u.grp := rfl
@[simp] theorem GfState.ack_rbuf (u : GfState) :
    (u.ack).rbuf = u.rbuf := rfl
@[simp] theorem GfState.ack_evValid (u : GfState) :
    (u.ack).evValid = false := rfl
@[simp] theorem GfState.ack_evR (u : GfState) :
    (u.ack).evR = u.evR := rfl
@[simp] theorem GfState.ack_evGi (u : GfState) :
    (u.ack).evGi = u.evGi := rfl

/-! `State.setPf` -/

@[simp] theorem State.setPf_pf (s : State) (x : PfState) :
    (s.setPf x).pf = x := rfl
@[simp] theorem State.setPf_gf (s : State) (x : PfState) :
    (s.setPf x).gf = s.gf := rfl
@[simp] theorem State.setPf_host (s : State) (x : PfState) :
    (s.setPf x).host = s.host := rfl
@[simp] theorem State.setPf_tick (s : State) (x : PfState) :
    (s.setPf x).tick = s.tick := rfl
@[simp] theorem State.setPf_pfRd (s : State) (x : PfState) :
    (s.setPf x).pfRd = s.pfRd := rfl
@[simp] theorem State.setPf_gfRd (s : State) (x : PfState) :
    (s.setPf x).gfRd = s.gfRd := rfl

/-! `State.setGf` -/

@[simp] theorem State.setGf_pf (s : State) (x : GfState) :
    (s.setGf x).pf = s.pf := rfl
@[simp] theorem State.setGf_gf (s : State) (x : GfState) :
    (s.setGf x).gf = x := rfl
@[simp] theorem State.setGf_host (s : State) (x : GfState) :
    (s.setGf x).host = s.host := rfl
@[simp] theorem State.setGf_tick (s : State) (x : GfState) :
    (s.setGf x).tick = s.tick := rfl
@[simp] theorem State.setGf_pfRd (s : State) (x : GfState) :
    (s.setGf x).pfRd = s.pfRd := rfl
@[simp] theorem State.setGf_gfRd (s : State) (x : GfState) :
    (s.setGf x).gfRd = s.gfRd := rfl

/-! `State.setPfRd` -/

@[simp] theorem State.setPfRd_pf (s : State) (v : Byte) :
    (s.setPfRd v).pf = s.pf := rfl
@[simp] theorem State.setPfRd_gf (s : State) (v : Byte) :
    (s.setPfRd v).gf = s.gf := rfl
@[simp] theorem State.setPfRd_host (s : State) (v : Byte) :
    (s.setPfRd v).host = s.host := rfl
@[simp] theorem State.setPfRd_tick (s : State) (v : Byte) :
    (s.setPfRd v).tick = s.tick := rfl
@[simp] theorem State.setPfRd_pfRd (s : State) (v : Byte) :
    (s.setPfRd v).pfRd = v := rfl
@[simp] theorem State.setPfRd_gfRd (s : State) (v : Byte) :
    (s.setPfRd v).gfRd = s.gfRd := rfl

/-! `State.setGfRd` -/

@[simp] theorem State.setGfRd_pf (s : State) (v : Slot) :
    (s.setGfRd v).pf = s.pf := rfl
@[simp] theorem State.setGfRd_gf (s : State) (v : Slot) :
    (s.setGfRd v).gf = s.gf := rfl
@[simp] theorem State.setGfRd_host (s : State) (v : Slot) :
    (s.setGfRd v).host = s.host := rfl
@[simp] theorem State.setGfRd_tick (s : State) (v : Slot) :
    (s.setGfRd v).tick = s.tick := rfl
@[simp] theorem State.setGfRd_pfRd (s : State) (v : Slot) :
    (s.setGfRd v).pfRd = s.pfRd := rfl
@[simp] theorem State.setGfRd_gfRd (s : State) (v : Slot) :
    (s.setGfRd v).gfRd = v := rfl

end Sys2Proof.Machine
end

