-- ==== Sys2Proof/Laws/Ops.lean ====
section
/-! SUPPORT. What the shared operations of an edge can do, said once. -/

namespace Sys2Proof.Machine

open Sys2Proof.Config

@[simp] theorem accLoad_eq (v : Byte) : accLoad v = v := rfl

@[simp] theorem accAdd_eq (a b : Byte) : accAdd a b = a + b := rfl

/-- PAIR_HIGH is concatenation, the high byte in the high part (00_scope R9). -/
theorem pairHigh_eq_append (hi lo : Byte) : pairHigh hi lo = hi ++ lo := by
  unfold pairHigh
  rw [BitVec.append_def, BitVec.shiftLeftZeroExtend_eq, BitVec.setWidth'_eq]

/-- Under the legal range of the cursor, the register's width loses nothing. -/
theorem curNext_eq (c : Params) (cur : Nat) (hc : 1 ≤ c.bpp) (h : cur < pbufCap c) : curNext c cur = cur + 1 := by
  unfold curNext curWidth clog2
  unfold pbufCap at h
  rw [if_neg (by omega), Nat.add_sub_cancel]
  exact Nat.mod_eq_of_lt (lt_of_le_of_lt (by omega) Nat.lt_log2_self)

/-- The parameters of the machine are legal. -/
theorem params_legal : params.legal := by
  unfold params
  exact ⟨Nat.le_add_left .., Nat.le_add_left .., groupsLessOne.isLt⟩

/-- A named state does not change by recovering. -/
theorem PfState.recover_of_used (u : PfState) (h : u.st.used = true) : u.recover = u := by
  unfold PfState.recover
  cases hs : u.st <;> simp_all [PfSt.used]

/-- A named state does not change by recovering. -/
theorem GfState.recover_of_used (u : GfState) (h : u.st.used = true) : u.recover = u := by
  unfold GfState.recover
  cases hs : u.st <;> simp_all [GfSt.used]

theorem recoverPf_of_used (p : PortIn) (u : PfState) (h : u.st.used = true) : recoverPf p u = u := by
  unfold recoverPf
  split
  · rfl
  · exact u.recover_of_used h

theorem recoverGf_of_used (p : PortIn) (u : GfState) (h : u.st.used = true) : recoverGf p u = u := by
  unfold recoverGf
  split
  · rfl
  · exact u.recover_of_used h

@[simp] theorem runInstrs_nil (s : State) : runInstrs [] s = .next s := rfl

@[simp] theorem runInstrs_singleton (i : Instr) (s : State) : runInstrs [i] s = exec i s := by
  simp only [runInstrs]
  cases exec i s <;> rfl

theorem runInstrs_cons_next {i : Instr} {is : List Instr} {s t : State} (h : exec i s = .next t) :
    runInstrs (i :: is) s = runInstrs is t := by
  simp [runInstrs, h]

/-- What an edge selects for the PF, in one line each (43_control R98). -/
theorem decodePf_cases (c : Params) (u : PfState) (p : PortIn) :
    (p.rst = true ∧ decodePf c u p = some (.reset .pf)) ∨
    (p.rst = false ∧ u.evValid = true ∧ p.evtReady = true ∧ decodePf c u p = some (.evtAck .pf)) ∨
    (p.rst = false ∧ u.evValid = false ∧ p.inValid = true ∧
      decodePf c u p = some (decodePfByte c u p.inData)) ∨
    (p.rst = false ∧ (u.evValid = true ∧ p.evtReady = false ∨ u.evValid = false ∧ p.inValid = false) ∧
      decodePf c u p = none) := by
  unfold decodePf PfState.inReady
  cases p.rst <;> cases u.evValid <;> cases p.evtReady <;> cases p.inValid <;> simp

/-- What an edge selects for the GF, in one line each (43_control R98). -/
theorem decodeGf_cases (c : Params) (u : GfState) (p : PortIn) :
    (p.rst = true ∧ decodeGf c u p = some (.reset .gf)) ∨
    (p.rst = false ∧ u.evValid = true ∧ p.evtReady = true ∧ decodeGf c u p = some (.evtAck .gf)) ∨
    (p.rst = false ∧ u.evValid = false ∧ p.inValid = true ∧
      decodeGf c u p = some (decodeGfByte c u p.inData)) ∨
    (p.rst = false ∧ (u.evValid = true ∧ p.evtReady = false ∨ u.evValid = false ∧ p.inValid = false) ∧
      decodeGf c u p = none) := by
  unfold decodeGf GfState.inReady
  cases p.rst <;> cases u.evValid <;> cases p.evtReady <;> cases p.inValid <;> simp

@[simp] theorem decodePf_idle (c : Params) (u : PfState) : decodePf c u idleIn = none := by
  simp [decodePf, idleIn]

@[simp] theorem decodeGf_idle (c : Params) (u : GfState) : decodeGf c u idleIn = none := by
  simp [decodeGf, idleIn]

@[simp] theorem advance_host (s : State) (a : HostAct) : (advance s a).host = s.host.tail := by
  cases a <;> rfl

/-- A run of any machine whose first step gives a next state goes on from there. -/
theorem core_run_succ (M : Host.Core) (n : Nat) (s t : M.State) (h : M.step s = .next t) :
    M.run (n + 1) s = M.run n t := by
  simp only [Host.Core.run, h]

/-- A run whose first step gives a next state goes on from there. -/
theorem run_succ_of_next {n : Nat} {s t : State} (h : step s = .next t) :
    Host.Core.run Sys2Proof.core (n + 1) s = Host.Core.run Sys2Proof.core n t :=
  core_run_succ Sys2Proof.core n s t h

end Sys2Proof.Machine
end

