-- ==== Sys2Proof/Laws/PerInstr.lean ====
section
/-! SUPPORT. A statement about every instruction as syntax, one lemma for each constructor. -/

namespace Sys2Proof.Laws.EncodesOneUnit

open Sys2Proof Sys2Proof.Machine

/-- The input an instruction is encoded as drives the unit the instruction belongs to and leaves the other unit's inputs
idle (43_control R97, 20_memory R47). -/
def Statement (i : Instr) : Prop :=
  (unitOf i = .pf → (encode i).gfIn = idleIn) ∧ (unitOf i = .gf → (encode i).pfIn = idleIn)

theorem pfStart : Statement .pfStart := ⟨fun _ => rfl, fun h => nomatch h⟩

theorem pfCountZero : Statement .pfCountZero := ⟨fun _ => rfl, fun h => nomatch h⟩

theorem pfEnd : Statement .pfEnd := ⟨fun _ => rfl, fun h => nomatch h⟩

theorem pfNoise (b : Byte) : Statement (.pfNoise b) := ⟨fun _ => rfl, fun h => nomatch h⟩

theorem pfCount (b : Byte) : Statement (.pfCount b) := ⟨fun _ => rfl, fun h => nomatch h⟩

theorem pfPayload (b : Byte) : Statement (.pfPayload b) := ⟨fun _ => rfl, fun h => nomatch h⟩

theorem pfPayloadLast (b : Byte) : Statement (.pfPayloadLast b) := ⟨fun _ => rfl, fun h => nomatch h⟩

theorem pfChkFail (b : Byte) : Statement (.pfChkFail b) := ⟨fun _ => rfl, fun h => nomatch h⟩

theorem pfChkNext (b : Byte) : Statement (.pfChkNext b) := ⟨fun _ => rfl, fun h => nomatch h⟩

theorem pfChkLast (b : Byte) : Statement (.pfChkLast b) := ⟨fun _ => rfl, fun h => nomatch h⟩

theorem pfEndNoise (b : Byte) : Statement (.pfEndNoise b) := ⟨fun _ => rfl, fun h => nomatch h⟩

theorem gfStart : Statement .gfStart := ⟨fun h => (nomatch h), fun _ => rfl⟩

theorem gfRcountZero : Statement .gfRcountZero := ⟨fun h => (nomatch h), fun _ => rfl⟩

theorem gfEnd : Statement .gfEnd := ⟨fun h => (nomatch h), fun _ => rfl⟩

theorem gfNoise (b : Byte) : Statement (.gfNoise b) := ⟨fun h => (nomatch h), fun _ => rfl⟩

theorem gfRcount (b : Byte) : Statement (.gfRcount b) := ⟨fun h => (nomatch h), fun _ => rfl⟩

theorem gfStartLo (b : Byte) : Statement (.gfStartLo b) := ⟨fun h => (nomatch h), fun _ => rfl⟩

theorem gfStartHi (b : Byte) : Statement (.gfStartHi b) := ⟨fun h => (nomatch h), fun _ => rfl⟩

theorem gfEndLo (b : Byte) : Statement (.gfEndLo b) := ⟨fun h => (nomatch h), fun _ => rfl⟩

theorem gfEndHi (b : Byte) : Statement (.gfEndHi b) := ⟨fun h => (nomatch h), fun _ => rfl⟩

theorem gfChkFail (b : Byte) : Statement (.gfChkFail b) := ⟨fun h => (nomatch h), fun _ => rfl⟩

theorem gfChkRangeNext (b : Byte) : Statement (.gfChkRangeNext b) := ⟨fun h => (nomatch h), fun _ => rfl⟩

theorem gfChkGroupNext (b : Byte) : Statement (.gfChkGroupNext b) := ⟨fun h => (nomatch h), fun _ => rfl⟩

theorem gfChkGroupLast (b : Byte) : Statement (.gfChkGroupLast b) := ⟨fun h => (nomatch h), fun _ => rfl⟩

theorem gfEndNoise (b : Byte) : Statement (.gfEndNoise b) := ⟨fun h => (nomatch h), fun _ => rfl⟩

theorem gfTerm (b : Byte) : Statement (.gfTerm b) := ⟨fun h => (nomatch h), fun _ => rfl⟩

theorem reset (u : UnitId) : Statement (.reset u) := by
  cases u with
  | pf => exact ⟨fun _ => rfl, fun h => nomatch h⟩
  | gf => exact ⟨fun h => (nomatch h), fun _ => rfl⟩

theorem evtAck (u : UnitId) : Statement (.evtAck u) := by
  cases u with
  | pf => exact ⟨fun _ => rfl, fun h => nomatch h⟩
  | gf => exact ⟨fun h => (nomatch h), fun _ => rfl⟩

theorem rd (u : UnitId) (a : Nat) : Statement (.rd u a) := ⟨fun _ => rfl, fun _ => rfl⟩

end Sys2Proof.Laws.EncodesOneUnit
end

