-- ==== Sys2Proof/Tests/Slice0.lean ====
section
/-! SUPPORT. Small tests: ill-formed terms, decoding of written-out bytes, single steps with the outcomes of spec/95, and a
witness for the hypotheses of each statement. -/

namespace Sys2Proof.Tests

open Sys2Proof Sys2Proof.Config Sys2Proof.Machine

/-- BPP = 2, G = 2: the build of the single-step vectors (95_test_vectors 2.3, 2.5). -/
def c22 : Params := ⟨2, 2⟩

/-- A machine whose PF is `u`, all else as after reset. -/
def withPf (u : PfState) : State := { State.reset with pf := u }

/-- A machine whose GF is `u`, all else as after reset. -/
def withGf (u : GfState) : State := { State.reset with gf := u }

/-- A machine whose PF is in control state `st`, all else as after reset. -/
def pfAt (st : PfSt) : State := withPf { PfState.reset with st := st }

/-- A machine whose GF is in control state `st`, all else as after reset. -/
def gfAt (st : GfSt) : State := withGf { GfState.reset with st := st }

/-- The state an instruction gives, or the state itself where it gives none. -/
def after (i : Instr) (s : State) : State :=
  match exec i s with
  | .next t => t
  | _ => s

/-! ### Ill-formed terms (30_encoding R57, 43_control R97) -/

theorem test_wf_pfNoise_start : (Instr.pfNoise 0xFE).wf c22 = false := by decide

theorem test_wf_pfCount_zero : (Instr.pfCount 0).wf c22 = false := by decide

theorem test_wf_pfEndNoise_end : (Instr.pfEndNoise 0xFF).wf c22 = false := by decide

theorem test_wf_gfNoise_start : (Instr.gfNoise 0xFE).wf c22 = false := by decide

theorem test_wf_gfRcount_zero : (Instr.gfRcount 0).wf c22 = false := by decide

theorem test_wf_gfEndNoise_end : (Instr.gfEndNoise 0xFF).wf c22 = false := by decide

/-- AWP = ⌈log2 510⌉ = 9 for BPP = 2. -/
theorem test_wf_rd_pf_wide : (Instr.rd .pf 512).wf c22 = false ∧ (Instr.rd .pf 511).wf c22 = true := by decide

theorem test_wf_rd_gf_wide : (Instr.rd .gf 512).wf c22 = false ∧ (Instr.rd .gf 511).wf c22 = true := by decide

theorem test_wf_lengths :
    [Instr.pfNoise 0xFF, .pfCount 255, .pfEndNoise 0xFE, .gfNoise 0, .gfRcount 1, .gfEndNoise 0].all (Instr.wf c22) := by
  decide

/-! ### Decoding: bytes written out from 30_encoding R57, in the state of their row -/

theorem test_decode_pfStart : decode c22 State.reset (offer .pf 0b11111110) = [.pfStart] := by decide

theorem test_decode_pfNoise : decode c22 State.reset (offer .pf 0b11111111) = [.pfNoise 255] := by decide

theorem test_decode_pfCountZero : decode c22 (pfAt .awaitCount) (offer .pf 0b00000000) = [.pfCountZero] := by decide

theorem test_decode_pfCount : decode c22 (pfAt .awaitCount) (offer .pf 0b11111110) = [.pfCount 254] := by decide

theorem test_decode_pfPayload :
    decode c22 (withPf { PfState.reset with st := .awaitPacketByte, cur := 2 }) (offer .pf 0b11111110) =
      [.pfPayload 254] := by decide

theorem test_decode_pfPayloadLast :
    decode c22 (withPf { PfState.reset with st := .awaitPacketByte, cur := 1 }) (offer .pf 0b11110101) =
      [.pfPayloadLast 245] := by decide

theorem test_decode_pfChkFail :
    decode c22 (withPf { PfState.reset with st := .awaitChecksum, acc := 5, rem := 1 }) (offer .pf 0b11111110) =
      [.pfChkFail 254] := by decide

theorem test_decode_pfChkNext :
    decode c22 (withPf { PfState.reset with st := .awaitChecksum, acc := 5, rem := 3 }) (offer .pf 0b00000101) =
      [.pfChkNext 5] := by decide

theorem test_decode_pfChkLast :
    decode c22 (withPf { PfState.reset with st := .awaitChecksum, acc := 0x22, rem := 1 }) (offer .pf 0b00100010) =
      [.pfChkLast 34] := by decide

theorem test_decode_pfEnd : decode c22 (pfAt .awaitEnd) (offer .pf 0b11111111) = [.pfEnd] := by decide

theorem test_decode_pfEndNoise : decode c22 (pfAt .awaitEnd) (offer .pf 0b11111110) = [.pfEndNoise 254] := by decide

theorem test_decode_gfStart : decode c22 State.reset (offer .gf 0b11111110) = [.gfStart] := by decide

theorem test_decode_gfNoise : decode c22 State.reset (offer .gf 0b00001011) = [.gfNoise 11] := by decide

theorem test_decode_gfRcountZero :
    decode c22 (gfAt .awaitRangeCount) (offer .gf 0b00000000) = [.gfRcountZero] := by decide

theorem test_decode_gfRcount : decode c22 (gfAt .awaitRangeCount) (offer .gf 0b11111111) = [.gfRcount 255] := by decide

theorem test_decode_gfStartLo : decode c22 (gfAt .awaitStartLow) (offer .gf 0b11111110) = [.gfStartLo 254] := by decide

theorem test_decode_gfStartHi : decode c22 (gfAt .awaitStartHigh) (offer .gf 0b00000001) = [.gfStartHi 1] := by decide

theorem test_decode_gfEndLo : decode c22 (gfAt .awaitEndLow) (offer .gf 0b11111111) = [.gfEndLo 255] := by decide

theorem test_decode_gfEndHi : decode c22 (gfAt .awaitEndHigh) (offer .gf 0b00000001) = [.gfEndHi 1] := by decide

theorem test_decode_gfChkFail :
    decode c22 (withGf { GfState.reset with st := .awaitChecksum, acc := 3, grp := 1 }) (offer .gf 0b00000100) =
      [.gfChkFail 4] := by decide

theorem test_decode_gfChkRangeNext :
    decode c22 (withGf { GfState.reset with st := .awaitChecksum, r := 2, acc := 3 }) (offer .gf 0b00000011) =
      [.gfChkRangeNext 3] := by decide

theorem test_decode_gfChkGroupNext :
    decode c22 (gfAt .awaitChecksum) (offer .gf 0b00000000) = [.gfChkGroupNext 0] := by decide

theorem test_decode_gfChkGroupLast :
    decode c22 (withGf { GfState.reset with st := .awaitChecksum, r := 1, acc := 0x0B, grp := 1 })
      (offer .gf 0b00001011) = [.gfChkGroupLast 11] := by decide

theorem test_decode_gfEnd : decode c22 (gfAt .awaitEnd) (offer .gf 0b11111111) = [.gfEnd] := by decide

theorem test_decode_gfEndNoise : decode c22 (gfAt .awaitEnd) (offer .gf 0b11111110) = [.gfEndNoise 254] := by decide

theorem test_decode_gfTerm : decode c22 (gfAt .terminal) (offer .gf 0b11111110) = [.gfTerm 254] := by decide

/-- V-PORT-1, edge 0: a byte offered with `rst` = 1 is not consumed. -/
theorem test_decode_reset :
    decode c22 State.reset (.edge { rst := true, inValid := true, inData := 0xFE, evtReady := false } idleIn) =
      [.reset .pf] := by decide

/-- V-PORT-1, edges 7 and 8: a byte offered while an event is pending is not accepted. -/
theorem test_decode_evtAck :
    decode c22 (withPf { PfState.reset with evValid := true })
      (.edge { rst := false, inValid := true, inData := 0xFE, evtReady := true } idleIn) = [.evtAck .pf] ∧
    decode c22 (withPf { PfState.reset with evValid := true }) (offer .pf 0xFE) = [] := by decide

theorem test_decode_rd : decode c22 State.reset (.read .gf 3) = [.rd .gf 3] := by decide

/-- V-PORT-8: a forced code 12 selects as AwaitStart. -/
theorem test_decode_unused :
    decode c22 (gfAt (.unused 3)) (offer .gf 0xFE) = [.gfStart] ∧
    decode c22 (pfAt (.unused 0)) (offer .pf 0x00) = [.pfNoise 0] := by decide

theorem test_decodeTableWord : decodeTableWord 8 0xFE = some .pfStart ∧ decodeTableWord 8 0x00 = some (.pfNoise 0) ∧
    decodeTableWord 16 0xFE = none := ⟨rfl, rfl, rfl⟩

/-! ### Single steps with the outcomes of 95_test_vectors -/

/-- 2.3, PF.START. -/
theorem test_pfStart : (after .pfStart State.reset).pf.st = .awaitCount := by decide

/-- 2.3, PF.NOISE with FF. -/
theorem test_pfNoise : (after (.pfNoise 0xFF) State.reset).pf = PfState.reset := by decide

/-- 2.3, PF.COUNT_ZERO. -/
theorem test_pfCountZero :
    (after .pfCountZero (withPf { PfState.reset with st := .awaitCount, n := 3, cur := 8, acc := 0xA0, pbuf := [(0, 1)] })).pf =
      { PfState.reset with st := .awaitEnd } := by decide

/-- 2.3, PF.COUNT with FE. -/
theorem test_pfCount :
    (after (.pfCount 0xFE) (withPf { PfState.reset with st := .awaitCount, cur := 8, acc := 0xA0, pbuf := [(0, 1)] })).pf =
      { PfState.reset with st := .awaitPacketByte, n := 254, rem := 254 } := by decide

/-- 2.3, PF.PAYLOAD with cur = 2, acc = 00, byte FE. -/
theorem test_pfPayload :
    PfState.storePayload c22 { PfState.reset with st := .awaitPacketByte, n := 2, rem := 1, cur := 2, pbuf := [(0, 1)] } 0xFE =
      { PfState.reset with
        st := .awaitPacketByte, n := 2, rem := 1, cur := 3, acc := 0xFE, pbuf := [(0, 1), (2, 0xFE)] } := by decide

/-- 2.3, PF.PAYLOAD stays in AwaitPacketByte and adds the byte. -/
theorem test_pfPayload_exec :
    (after (.pfPayload 0x10) (pfAt .awaitPacketByte)).pf.st = .awaitPacketByte ∧
    (after (.pfPayload 0x10) (pfAt .awaitPacketByte)).pf.acc = 0x10 := ⟨rfl, rfl⟩

/-- 2.3, PF.PAYLOAD_LAST with cur = 1, acc = 10, byte F5. -/
theorem test_pfPayloadLast :
    PfState.storePayload c22 { PfState.reset with cur := 1, acc := 0x10, pbuf := [(0, 0x10)] } 0xF5 =
      { PfState.reset with cur := 2, acc := 0x05, pbuf := [(0, 0x10), (1, 0xF5)] } := by decide

/-- 2.3, PF.PAYLOAD_LAST with BPP = 1, and the state after it. -/
theorem test_pfPayloadLast_exec :
    PfState.storePayload ⟨1, 1⟩ PfState.reset 7 = { PfState.reset with cur := 1, acc := 7, pbuf := [(0, 7)] } ∧
    (after (.pfPayloadLast 7) (pfAt .awaitPacketByte)).pf.st = .awaitChecksum := ⟨by decide, rfl⟩

/-- P1, byte 12: PF.CHK_FAIL leaves every register as it is. -/
theorem test_pfChkFail :
    (after (.pfChkFail 0xA1) (withPf { PfState.reset with st := .awaitChecksum, n := 3, rem := 2, cur := 8, acc := 0xA0 })).pf =
      { PfState.reset with st := .awaitStart, n := 3, rem := 2, cur := 8, acc := 0xA0 } := by decide

/-- 2.3, PF.CHK_NEXT with rem = 3, acc = 05. -/
theorem test_pfChkNext :
    (after (.pfChkNext 5) (withPf { PfState.reset with st := .awaitChecksum, n := 3, rem := 3, cur := 2, acc := 5 })).pf =
      { PfState.reset with st := .awaitPacketByte, n := 3, rem := 2, cur := 2 } := by decide

/-- 2.3, PF.CHK_LAST with rem = 1, acc = 22. -/
theorem test_pfChkLast :
    (after (.pfChkLast 0x22) (withPf { PfState.reset with st := .awaitChecksum, n := 1, rem := 1, cur := 2, acc := 0x22 })).pf =
      { PfState.reset with st := .awaitEnd, n := 1, cur := 2 } := by decide

/-- 2.3, PF.END with n = 1 and PBUF[0..1] = 10 F5, BPP = 2: EOM([10 F5], 1). -/
theorem test_pfEnd :
    (after .pfEnd (withPf { PfState.reset with st := .awaitEnd, n := 1, cur := 2, pbuf := [(0, 0x10), (1, 0xF5)] })).pf.pending
      c22 = some { payload := [some 0x10, some 0xF5], count := 1 } := by decide

/-- 2.3, PF.END with n = 0: EOM([], 0), and the unit is in AwaitStart. -/
theorem test_pfEnd_empty :
    (after .pfEnd (pfAt .awaitEnd)).pf.pending c22 = some { payload := [], count := 0 } ∧
    (after .pfEnd (pfAt .awaitEnd)).pf.st = .awaitStart := by decide

/-- 2.3, PF.END_NOISE with FE. -/
theorem test_pfEndNoise : after (.pfEndNoise 0xFE) (pfAt .awaitEnd) = pfAt .awaitEnd := by decide

/-- 2.5, GF.START. -/
theorem test_gfStart : (after .gfStart State.reset).gf = { GfState.reset with st := .awaitRangeCount } := by decide

/-- 2.5, GF.NOISE with 0B. -/
theorem test_gfNoise : after (.gfNoise 0x0B) State.reset = State.reset := by decide

/-- 2.5, GF.RCOUNT_ZERO; lo, grp and the event registers stay. -/
theorem test_gfRcountZero :
    (after .gfRcountZero (withGf { GfState.reset with st := .awaitRangeCount, r := 2, k := 2, lo := 9, acc := 7, grp := 1, rbuf := [(0, 1)] })).gf =
      { GfState.reset with st := .awaitChecksum, lo := 9, grp := 1 } := by decide

/-- 2.5, GF.RCOUNT with FF. -/
theorem test_gfRcount :
    (after (.gfRcount 0xFF) (withGf { GfState.reset with st := .awaitRangeCount, r := 2, k := 2, acc := 7, rbuf := [(0, 1)] })).gf =
      { GfState.reset with st := .awaitStartLow, r := 255, acc := 0xFF } := by decide

/-- 2.6: FE as START_LO in the stream of 2.2, acc = 01. -/
theorem test_gfStartLo :
    (after (.gfStartLo 0xFE) (withGf { GfState.reset with st := .awaitStartLow, r := 1, acc := 1 })).gf =
      { GfState.reset with st := .awaitStartHigh, r := 1, acc := 0xFF, lo := 0xFE } := by decide

/-- 2.5, GF.START_HI with k = 0, lo = 00, acc = 02, byte 01: RBUF[0] = 0x0100. -/
theorem test_gfStartHi :
    (after (.gfStartHi 1) (withGf { GfState.reset with st := .awaitStartHigh, r := 2, acc := 2 })).gf =
      { GfState.reset with st := .awaitEndLow, r := 2, acc := 3, rbuf := [(0, 0x0100)] } := by decide

/-- 2.5, GF.END_LO with acc = 03, byte FF. -/
theorem test_gfEndLo :
    (after (.gfEndLo 0xFF) (withGf { GfState.reset with st := .awaitEndLow, r := 2, acc := 3 })).gf =
      { GfState.reset with st := .awaitEndHigh, r := 2, acc := 2, lo := 0xFF } := by decide

/-- 2.5, GF.END_HI with k = 0, lo = FF, acc = 02, byte 01: RBUF[1] = 0x01FF. -/
theorem test_gfEndHi :
    (after (.gfEndHi 1) (withGf { GfState.reset with st := .awaitEndHigh, r := 2, lo := 0xFF, acc := 2, rbuf := [(0, 0x0100)] })).gf =
      { GfState.reset with st := .awaitChecksum, r := 2, lo := 0xFF, acc := 3, rbuf := [(0, 0x0100), (1, 0x01FF)] } := by decide

/-- 2.5, GF.END_HI of the second range (k = 1) goes to slot 3. -/
theorem test_gfEndHi_second :
    ((after (.gfEndHi 0) (withGf { GfState.reset with st := .awaitEndHigh, r := 2, k := 1, lo := 4, acc := 9 })).gf.rbuf.read 3) =
      some 4 := by decide

/-- 2.5, GF.CHK_FAIL with acc = 03, grp = 1. -/
theorem test_gfChkFail :
    (after (.gfChkFail 4) (withGf { GfState.reset with st := .awaitChecksum, r := 2, k := 1, acc := 3, grp := 1 })).gf =
      { GfState.reset with st := .awaitStart, r := 2, k := 1, acc := 3 } := by decide

/-- 2.5, GF.CHK_RANGE_NEXT with r = 2, k = 0, acc = 03. -/
theorem test_gfChkRangeNext :
    (after (.gfChkRangeNext 3) (withGf { GfState.reset with st := .awaitChecksum, r := 2, acc := 3 })).gf =
      { GfState.reset with st := .awaitStartLow, r := 2, k := 1, acc := 2 } := by decide

/-- 2.5, GF.CHK_GROUP_NEXT with r = 0, k = 0, grp = 0: GRP([], 0, 0). -/
theorem test_gfChkGroupNext :
    (after (.gfChkGroupNext 0) (gfAt .awaitChecksum)).gf =
      { GfState.reset with st := .awaitRangeCount, k := 1, grp := 1, evValid := true } := by decide

/-- 2.5, GF.CHK_GROUP_LAST with r = 1, k = 0, acc = 0B, grp = 1: GRP([0x0000, 0x000A], 1, 1). -/
theorem test_gfChkGroupLast :
    (after (.gfChkGroupLast 0x0B) (withGf { GfState.reset with st := .awaitChecksum, r := 1, acc := 0x0B, grp := 1, rbuf := [(0, 0), (1, 0x000A)] })).gf.pending =
      some { ranges := [some 0, some 0x000A], count := 1, groupIndex := 1 } := by decide

/-- 2.5, GF.CHK_GROUP_LAST: k = 1, grp = 2, state AwaitEnd. -/
theorem test_gfChkGroupLast_regs :
    (after (.gfChkGroupLast 0x0B) (withGf { GfState.reset with st := .awaitChecksum, r := 1, acc := 0x0B, grp := 1 })).gf =
      { GfState.reset with st := .awaitEnd, r := 1, k := 1, acc := 0x0B, grp := 2, evValid := true, evR := 1, evGi := 1 } := by decide

/-- 2.5, GF.END: no event. -/
theorem test_gfEnd : after .gfEnd (gfAt .awaitEnd) = gfAt .terminal := by decide

/-- 2.5, GF.END_NOISE with FE. -/
theorem test_gfEndNoise : after (.gfEndNoise 0xFE) (gfAt .awaitEnd) = gfAt .awaitEnd := by decide

/-- 2.5, GF.TERM with FE. -/
theorem test_gfTerm : after (.gfTerm 0xFE) (gfAt .terminal) = gfAt .terminal := by decide

/-- V-PORT-2: reset discards a pending event. -/
theorem test_reset_gf :
    after (.reset .gf) (withGf { GfState.reset with st := .awaitEnd, grp := 1, evValid := true, evR := 1, rbuf := [(0, 0)] }) =
      State.reset := by decide

/-- V-PORT-6: reset of the PF alone leaves the GF. -/
theorem test_reset_pf : (after (.reset .pf) { pfAt .awaitCount with gf := (gfAt .awaitRangeCount).gf }) = gfAt .awaitRangeCount := by
  decide

/-- V-PORT-1, edge 8. -/
theorem test_evtAck_pf :
    (after (.evtAck .pf) (withPf { PfState.reset with n := 1, evValid := true, evN := 1 })).pf =
      { PfState.reset with n := 1, evN := 1 } := by decide

theorem test_evtAck_gf : (after (.evtAck .gf) (withGf { GfState.reset with grp := 1, evValid := true })).gf =
    { GfState.reset with grp := 1 } := by decide

/-- V-PORT-1: with `rd_addr` = 0, `pf_rd_data` = 05; at address 1 = L the rule gives no value. -/
theorem test_rd_pf :
    PfState.rdData? ⟨1, 1⟩ { PfState.reset with n := 1, evValid := true, evN := 1, pbuf := [(0, 5)] } 0 = some 5 ∧
    PfState.rdData? ⟨1, 1⟩ { PfState.reset with n := 1, evValid := true, evN := 1, pbuf := [(0, 5)] } 1 = none := by decide

/-- 2.2: slot 1 of GRP([0x1234, 0xABCD], 1, 0). -/
theorem test_rd_gf :
    (after (.rd .gf 1) (withGf { GfState.reset with evValid := true, evR := 1, rbuf := [(0, 0x1234), (1, 0xABCD)] })).gfRd = 0xABCD := by
  decide

/-- V-PORT-6, through the step: both units accept FE at one edge. -/
theorem test_step_both :
    step { State.reset with host := [.edge (byteIn 0xFE) (byteIn 0xFE)] } =
      .next { State.reset with tick := 1, pf := (pfAt .awaitCount).pf, gf := (gfAt .awaitRangeCount).gf } := rfl

/-- V-PORT-8: a forced code 12 recovers at an edge with no byte. -/
theorem test_step_unused :
    step { withGf { GfState.reset with st := .unused 3, grp := 1 } with host := [.edge idleIn idleIn] } =
      .next { State.reset with tick := 1 } := rfl

/-- The first word of a message runs as PF.START right after reset. -/
theorem test_step_fetchWord :
    step (State.reset.withFetchWord 8 0xFE) = .next { pfAt .awaitCount with tick := 1 } := rfl

/-! ### Datapath and wire formats (95_test_vectors 2.1, 2.2, L1) -/

theorem test_accAdd_wraps : accAdd 0x10 0xF5 = 0x05 ∧ accAdd 0xFE 0xFF = 0xFD ∧ accAdd 0x80 0x80 = 0 := by decide

theorem test_sum8 : sum8 [0x01, 0xFE, 0xFF, 0xFF, 0xFF] = 0xFC ∧ sum8 [0x01, 0, 0, 0x0A, 0] = 0x0B := by decide

theorem test_pairHigh : pairHigh 0x12 0x34 = 0x1234 ∧ pairHigh 0xFF 0xFE = 0xFFFE ∧ pairHigh 0x0A 0x00 = 0x0A00 := by decide

theorem test_curWidth : curWidth ⟨1, 1⟩ = 8 ∧ curWidth ⟨2, 1⟩ = 9 ∧ rdAddrWidth ⟨1, 1⟩ .pf = 8 := by decide

/-- L1-1. -/
theorem test_pktMsg :
    pktMsg [[1, 2, 3], [0x0A, 0x0B, 0x0C]] = [0xFE, 0x02, 1, 2, 3, 0x06, 0x0A, 0x0B, 0x0C, 0x21, 0xFF] := by decide

/-- L1-9 (corrected Scenario B), and L1-10. -/
theorem test_grpMsg :
    grpMsg [[(0x0000, 0x000A)]] = [0xFE, 0x01, 0x00, 0x00, 0x0A, 0x00, 0x0B, 0xFF] ∧
    grpMsg [[], []] = [0xFE, 0, 0, 0, 0, 0xFF] := by decide

/-- The status codes of 10_state R27 that V-PORT-5 and V-PORT-7 show. -/
theorem test_status : (gfAt .terminal).gfStatus = 8 ∧ (pfAt .awaitChecksum).pfStatus = 3 := by decide

/-! ### Witnesses: for each statement with hypotheses, a state and operands that meet them, each clause at its bounds -/

theorem witness_PfStartResult : State.reset.pf.st = .awaitStart ∧ State.reset.pf.evValid = false := by decide

theorem witness_PfNoiseChangesNothing :
    (State.reset.pf.evValid = false ∧ State.reset.pf.st = .awaitStart ∧ (0xFF : Byte) ≠ startByte) ∧
    ((pfAt .awaitEnd).pf.evValid = false ∧ (pfAt .awaitEnd).pf.st = .awaitEnd ∧ (0xFE : Byte) ≠ endByte) := by decide

theorem witness_PfCountLoads :
    (pfAt .awaitCount).pf.st = .awaitCount ∧ (pfAt .awaitCount).pf.evValid = false ∧ (1 : Byte) ≠ 0 ∧ (255 : Byte) ≠ 0 := by
  decide

/-- PF.PAYLOAD and PF.PAYLOAD_LAST: the cursor at the start of a packet and at its last byte. -/
theorem witness_PfPayloadStores :
    (pfAt .awaitPacketByte).pf.st = .awaitPacketByte ∧ (pfAt .awaitPacketByte).pf.evValid = false ∧
    ((pfAt .awaitPacketByte).pf.cur + 1) % c22.bpp ≠ 0 ∧
    ((withPf { PfState.reset with st := .awaitPacketByte, cur := 1 }).pf.cur + 1) % c22.bpp = 0 := by decide

/-- The cursor at the last element of PBUF, and just beyond it. -/
theorem witness_PfPayloadStores_bounds :
    (withPf { PfState.reset with st := .awaitPacketByte, cur := 255 * params.bpp - 1 }).pf.cur < 255 * params.bpp ∧
    255 * params.bpp ≤ (withPf { PfState.reset with st := .awaitPacketByte, cur := 255 * params.bpp }).pf.cur := by
  have h : 1 ≤ params.bpp := params_legal.1
  refine ⟨?_, Nat.le_refl _⟩
  show 255 * params.bpp - 1 < 255 * params.bpp
  omega

/-- A mismatch; a match with two packets left; a match with one left, and with none left. -/
theorem witness_PfChecksumByte :
    let u : PfState := { PfState.reset with st := .awaitChecksum, acc := 5, rem := 2 }
    u.st = .awaitChecksum ∧ u.evValid = false ∧ (6 : Byte) ≠ u.acc ∧ (5 : Byte) = u.acc ∧ 2 ≤ u.rem.toNat ∧
    (1 : Byte).toNat ≤ 1 ∧ (0 : Byte).toNat ≤ 1 := by decide

theorem witness_PfEndPresentsMessage : (pfAt .awaitEnd).pf.st = .awaitEnd ∧ (pfAt .awaitEnd).pf.evValid = false := by decide

theorem witness_GfMarkersMoveState :
    (State.reset.gf.evValid = false ∧ State.reset.gf.st = .awaitStart) ∧
    ((gfAt .awaitEnd).gf.evValid = false ∧ (gfAt .awaitEnd).gf.st = .awaitEnd) := by decide

theorem witness_GfNoiseChangesNothing :
    (State.reset.gf.evValid = false ∧ State.reset.gf.st = .awaitStart ∧ (0xFF : Byte) ≠ startByte) ∧
    ((gfAt .awaitEnd).gf.evValid = false ∧ (gfAt .awaitEnd).gf.st = .awaitEnd ∧ (0xFE : Byte) ≠ endByte) ∧
    ((gfAt .terminal).gf.evValid = false ∧ (gfAt .terminal).gf.st = .terminal) := by decide

theorem witness_GfRangeCountLoads :
    (gfAt .awaitRangeCount).gf.st = .awaitRangeCount ∧ (gfAt .awaitRangeCount).gf.evValid = false ∧
    (1 : Byte) ≠ 0 ∧ (255 : Byte) ≠ 0 := by decide

theorem witness_GfLowByteLatches :
    ((gfAt .awaitStartLow).gf.evValid = false ∧ (gfAt .awaitStartLow).gf.st = .awaitStartLow) ∧
    ((gfAt .awaitEndLow).gf.evValid = false ∧ (gfAt .awaitEndLow).gf.st = .awaitEndLow) := by decide

/-- Both states, at the first and the last range, and at the counter value no range has. -/
theorem witness_GfHighByteStores :
    ∀ k : Byte, (k = 0 ∨ k = 254 ∨ k = 255) →
      (withGf { GfState.reset with st := .awaitStartHigh, k := k }).gf.evValid = false ∧
      (withGf { GfState.reset with st := .awaitStartHigh, k := k }).gf.st = .awaitStartHigh ∧
      (withGf { GfState.reset with st := .awaitEndHigh, k := k }).gf.st = .awaitEndHigh ∧
      (k.toNat < 255 ∨ k.toNat = 255) := by
  rintro k (rfl | rfl | rfl) <;> decide

/-- A mismatch; a match with range 0 of 2, and with range 253 of 255. -/
theorem witness_GfChecksumInsideGroup :
    let u : GfState := { GfState.reset with st := .awaitChecksum, r := 2, acc := 3 }
    u.st = .awaitChecksum ∧ u.evValid = false ∧ (4 : Byte) ≠ u.acc ∧ (3 : Byte) = u.acc ∧ u.k.toNat + 1 < u.r.toNat ∧
    (253 : Byte).toNat + 1 < (255 : Byte).toNat := by decide

/-- A group of no ranges, and the last range of 255; with a group to come, and at the last group. -/
theorem witness_GfGroupPresents :
    let u : GfState := { GfState.reset with st := .awaitChecksum }
    u.st = .awaitChecksum ∧ u.evValid = false ∧ (0 : Byte) = u.acc ∧ u.r.toNat ≤ u.k.toNat + 1 ∧
    (255 : Byte).toNat ≤ (254 : Byte).toNat + 1 ∧ u.grp.toNat + 1 < c22.groups ∧ c22.groups ≤ (1 : Byte).toNat + 1 := by decide

theorem witness_ResetUnit : rstIn.rst = true := by decide

theorem witness_AcknowledgeClearsPending :
    ackIn.rst = false ∧ ackIn.evtReady = true ∧ (withPf { PfState.reset with evValid := true }).pf.evValid = true ∧
    (withGf { GfState.reset with evValid := true }).gf.evValid = true ∧
    State.reset.pf.evValid = false ∧ State.reset.gf.evValid = false := by decide

/-- The first payload byte of one packet, and the last slot of one range. -/
theorem witness_ReadPortGivesElement :
    let s : State := { State.reset with
      pf := { PfState.reset with n := 1, evValid := true, evN := 1, pbuf := [(0, 5)] }
      gf := { GfState.reset with evValid := true, evR := 1, rbuf := [(0, 0), (1, 10)] } }
    (s.pf.evValid = true ∧ 0 < s.pf.evN.toNat * params.bpp ∧ s.pf.pbuf.read 0 = some 5) ∧
    (s.gf.evValid = true ∧ 1 < 2 * s.gf.evR.toNat ∧ s.gf.rbuf.read 1 = some 10) := by
  have h : 1 ≤ params.bpp := params_legal.1
  refine ⟨⟨rfl, ?_, rfl⟩, by decide⟩
  show 0 < 1 * params.bpp
  omega

theorem witness_ExactlyOneRowApplies :
    State.reset.evPending .pf = false ∧ State.reset.evPending .gf = false ∧ (pfAt (.unused 2)).evPending .pf = false := by
  decide

/-- A state and a well-formed instruction selected in it, for every constructor. -/
def selectedPairs : List (State × Instr) :=
  [(State.reset, .pfStart), (State.reset, .pfNoise 0), (pfAt .awaitCount, .pfCountZero), (pfAt .awaitCount, .pfCount 255),
   (pfAt .awaitPacketByte, .pfPayload 0xFE),
   (withPf { PfState.reset with st := .awaitPacketByte, cur := 1 }, .pfPayloadLast 0xFF),
   (pfAt .awaitChecksum, .pfChkFail 1), (withPf { PfState.reset with st := .awaitChecksum, rem := 2 }, .pfChkNext 0),
   (pfAt .awaitChecksum, .pfChkLast 0), (pfAt .awaitEnd, .pfEnd), (pfAt .awaitEnd, .pfEndNoise 0xFE),
   (State.reset, .gfStart), (gfAt (.unused 6), .gfNoise 0), (gfAt .awaitRangeCount, .gfRcountZero),
   (gfAt .awaitRangeCount, .gfRcount 1), (gfAt .awaitStartLow, .gfStartLo 0)] ++
  [(gfAt .awaitStartHigh, .gfStartHi 0), (gfAt .awaitEndLow, .gfEndLo 0), (gfAt .awaitEndHigh, .gfEndHi 0),
   (gfAt .awaitChecksum, .gfChkFail 1), (withGf { GfState.reset with st := .awaitChecksum, r := 2 }, .gfChkRangeNext 0),
   (gfAt .awaitChecksum, .gfChkGroupNext 0),
   (withGf { GfState.reset with st := .awaitChecksum, grp := 1 }, .gfChkGroupLast 0), (gfAt .awaitEnd, .gfEnd),
   (gfAt .awaitEnd, .gfEndNoise 0), (gfAt .terminal, .gfTerm 0xFE), (State.reset, .reset .gf),
   (withPf { PfState.reset with evValid := true }, .evtAck .pf), (State.reset, .rd .pf 511)]

theorem witness_DecodeEncodeAgree : selectedPairs.all fun p => p.2.wf c22 && p.2.selected c22 p.1 := by decide

/-- No instruction, one, and two at one action. -/
theorem witness_StepRunsDecoded :
    let s : State := { State.reset with host := [.edge (byteIn 0xFE) rstIn] }
    s.host = .edge (byteIn 0xFE) rstIn :: [] ∧ s.pf.st.used = true ∧ s.gf.st.used = true ∧
    decode params s (.edge (byteIn 0xFE) rstIn) = [.pfStart, .reset .gf] ∧
    exec .pfStart { s with host := [], tick := 1 } = .next { pfAt .awaitCount with tick := 1 } ∧
    decode params s (offer .pf 0xFE) = [.pfStart] ∧ decode params s (.edge idleIn idleIn) = [] :=
  ⟨rfl, rfl, rfl, rfl, rfl, rfl, rfl⟩

theorem witness_PfEdgePriority :
    ({ pfAt (.unused 0) with host := [.edge ackIn rstIn] } : State).host = .edge ackIn rstIn :: [] := by decide

theorem witness_GfEdgePriority :
    ({ gfAt (.unused 0) with host := [.edge rstIn ackIn] } : State).host = .edge rstIn ackIn :: [] := by decide

/-- Two machines that differ in the GF alone, at edges that differ in the GF's inputs alone. -/
theorem witness_UnitsAreIndependent :
    let s₁ : State := { State.reset with host := [.edge (byteIn 0xFE) idleIn] }
    let s₂ : State := { gfAt .terminal with host := [.edge (byteIn 0xFE) rstIn] }
    step s₁ = .next { pfAt .awaitCount with tick := 1 } ∧ step s₂ = .next { pfAt .awaitCount with tick := 1 } ∧
    (fetch s₁).isEdge = (fetch s₂).isEdge ∧ s₁.pf = s₂.pf ∧ (fetch s₁).pfIn = (fetch s₂).pfIn := ⟨rfl, rfl, rfl, rfl, rfl⟩

theorem witness_UnitsAreIndependent_gf :
    let s₁ : State := { State.reset with host := [.edge idleIn (byteIn 0xFE)] }
    let s₂ : State := { pfAt .awaitEnd with host := [.edge rstIn (byteIn 0xFE)] }
    step s₁ = .next { gfAt .awaitRangeCount with tick := 1 } ∧ step s₂ = .next { gfAt .awaitRangeCount with tick := 1 } ∧
    (fetch s₁).isEdge = (fetch s₂).isEdge ∧ s₁.gf = s₂.gf ∧ (fetch s₁).gfIn = (fetch s₂).gfIn := ⟨rfl, rfl, rfl, rfl, rfl⟩

theorem witness_UnusedCodeActsAsAwaitStart :
    let s : State := { State.reset with
      pf := { PfState.reset with st := .unused 2 }, gf := { GfState.reset with st := .unused 6, grp := 1 }
      host := [.edge (byteIn 0xFE) idleIn] }
    s.host = .edge (byteIn 0xFE) idleIn :: [] ∧ s.pf.st = .unused 2 ∧ s.gf.st = .unused 6 ∧
    (byteIn 0xFE).rst = false ∧ (s.pf.evValid && (byteIn 0xFE).evtReady) = false ∧
    idleIn.rst = false ∧ (s.gf.evValid && idleIn.evtReady) = false := by decide

theorem witness_HandshakeOutputs :
    (withPf { PfState.reset with evValid := true }).pf.evValid = true ∧
    (withGf { GfState.reset with evValid := true }).gf.evValid = true := by decide

/-- A buffer with elements 0 to `n − 1` written with 0. -/
def filled (w : Nat) : Nat → Memory w
  | 0 => []
  | n + 1 => (filled w n).insert n 0

theorem read_filled (w n i : Nat) : (filled w n).read i = if i < n then some 0 else none := by
  induction n with
  | zero => rfl
  | succ n ih =>
    rw [filled, Memory.read_insert, ih]
    by_cases h : i = n
    · simp [h]
    · rw [if_neg h]
      exact if_congr (by omega) rfl rfl

theorem wf_filled (w n cap : Nat) (h : n ≤ cap) : (filled w n).wf cap = true := by
  induction n with
  | zero => rfl
  | succ n ih => exact Memory.wf_insert cap _ n 0 h (ih (by omega))

theorem written_filled (w n : Nat) : (filled w n).written n := by
  intro i hi
  simp [read_filled, hi]

/-- A PF whose message of one packet of zeros has ended, its event pending. -/
def pfPending (c : Params) : PfState :=
  { PfState.reset with n := 1, cur := c.bpp, pbuf := filled 8 c.bpp, evValid := true, evN := 1 }

/-- A GF whose last group, of one range of zeros, is complete, its event pending. -/
def gfPending (c : Params) : GfState :=
  { GfState.reset with
    st := .awaitEnd, r := 1, k := 1, acc := 1, grp := BitVec.ofNat 8 c.groups, rbuf := filled 16 2, evValid := true, evR := 1
    evGi := BitVec.ofNat 8 (c.groups - 1) }

theorem pfInv_pfPending (c : Params) (hc : c.legal) : PfInv c (pfPending c) where
  buffer := wf_filled 8 c.bpp _ (by unfold pbufCap; omega)
  named := rfl
  cursor := by show c.bpp ≤ 255 * c.bpp; omega
  packetByte := fun h => nomatch h
  checksum := fun h => nomatch h
  awaitEnd := fun h => nomatch h
  event := fun _ => ⟨rfl, rfl, by show (filled 8 c.bpp).written (1 * c.bpp); rw [Nat.one_mul]; exact written_filled 8 c.bpp⟩

theorem gfInv_gfPending (c : Params) (hc : c.legal) : GfInv c (gfPending c) where
  buffer := wf_filled 16 2 _ (by decide)
  named := rfl
  awaitStart := fun h => nomatch h
  inMessage := fun h => by simp [gfPending] at h
  inRange := fun h => by simp [gfPending] at h
  startWritten := fun h => by simp [gfPending] at h
  sumStartLow := fun h => nomatch h
  sumStartHigh := fun h => nomatch h
  sumEndLow := fun h => nomatch h
  sumEndHigh := fun h => nomatch h
  checksumZero := fun h => nomatch h
  checksum := fun h => nomatch h
  afterGroups := fun _ => by
    have := hc.2.2
    show c.groups % 2 ^ 8 = c.groups
    omega
  event := fun _ => by
    have h1 := hc.2.1
    have h2 := hc.2.2
    refine ⟨by simp [gfPending], rfl, ?_, written_filled 16 2⟩
    show (c.groups - 1) % 2 ^ 8 + 1 = c.groups % 2 ^ 8
    omega

/-- A state of the invariant with both events pending. -/
theorem witness_StepKeepsInvariant :
    State.Inv { State.reset with pf := pfPending params, gf := gfPending params } :=
  ⟨pfInv_pfPending params params_legal, gfInv_gfPending params params_legal⟩

/-- The last address below the payload length, for each unit. -/
theorem witness_PendingPayloadIsReadable :
    (pfPending params).evValid = true ∧ params.bpp - 1 < (pfPending params).evN.toNat * params.bpp ∧
    (gfPending params).evValid = true ∧ 1 < 2 * (gfPending params).evR.toNat := by
  have h : 1 ≤ params.bpp := params_legal.1
  refine ⟨rfl, ?_, rfl, by decide⟩
  show params.bpp - 1 < 1 * params.bpp
  omega

theorem witness_EventPayloadIsWritten_pf :
    let u : PfState := { PfState.reset with st := .awaitEnd, n := 1, cur := 1, pbuf := [(0, 7)] }
    (⟨1, 1⟩ : Params).legal ∧ PfInv ⟨1, 1⟩ u ∧ u.evValid = false ∧
    (pfTxn ⟨1, 1⟩ u endByte).2 = some { payload := [some 7], count := 1 } := by
  refine ⟨by decide, ?_, rfl, by decide⟩
  constructor
  · decide
  · rfl
  · decide
  · exact fun h => nomatch h
  · exact fun h => nomatch h
  · refine fun _ => ⟨rfl, rfl, fun i hi => ?_⟩
    obtain rfl : i = 0 := by
      change i < 1 at hi
      omega
    rfl
  · exact fun h => nomatch h

theorem witness_EventPayloadIsWritten_gf :
    (⟨1, 1⟩ : Params).legal ∧ GfInv ⟨1, 1⟩ (gfAt .awaitChecksum).gf ∧ (gfAt .awaitChecksum).gf.evValid = false ∧
    (gfTxn ⟨1, 1⟩ (gfAt .awaitChecksum).gf 0).2 = some { ranges := [], count := 0, groupIndex := 0 } := by
  refine ⟨by decide, ?_, rfl, by decide⟩
  constructor <;> first
    | rfl
    | (intro h; exact absurd h (by decide))
    | (intro _; decide)
    | (intro _ h; exact absurd h (by decide))

theorem witness_OnlyCompletionsRaiseEvents :
    exec .pfEnd (pfAt .awaitEnd) = .next (after .pfEnd (pfAt .awaitEnd)) ∧
    (pfAt .awaitEnd).pf.evValid = false ∧ (after .pfEnd (pfAt .awaitEnd)).pf.evValid = true ∧
    exec (.gfChkGroupLast 0) (gfAt .awaitChecksum) = .next (after (.gfChkGroupLast 0) (gfAt .awaitChecksum)) ∧
    (gfAt .awaitChecksum).gf.evValid = false ∧
    (after (.gfChkGroupLast 0) (gfAt .awaitChecksum)).gf.evValid = true :=
  ⟨rfl, rfl, rfl, rfl, rfl, rfl⟩

/-- For each register of the PF, an instruction that changes it. -/
theorem witness_RegistersHaveListedWriters_pf :
    (after (.pfCount 3) State.reset).pf.n ≠ 0 ∧ (after (.pfChkNext 0) State.reset).pf.rem ≠ 0 ∧
    (after .pfCountZero (withPf { PfState.reset with cur := 1 })).pf.cur ≠ 1 ∧
    (after .pfEnd (withPf { PfState.reset with n := 1 })).pf.evN ≠ 0 ∧
    (after (.pfChkLast 5) (withPf { PfState.reset with acc := 5 })).pf.acc ≠ 5 ∧
    (after .pfStart State.reset).pf.st ≠ .awaitStart := by decide

/-- A payload byte is stored in a buffer that did not hold it. -/
theorem witness_RegistersHaveListedWriters_pbuf :
    (after (.pfPayload 5) State.reset).pf.pbuf.read 0 = some 5 ∧ State.reset.pf.pbuf.read 0 ≠ some 5 := by
  refine ⟨?_, by decide⟩
  have h : 1 ≤ params.bpp := params_legal.1
  show (Memory.write (pbufCap params) [] 0 5).read 0 = some 5
  rw [Memory.read_write, if_pos ⟨rfl, by unfold pbufCap; omega⟩]

/-- For each register of the GF, an instruction that changes it. -/
theorem witness_RegistersHaveListedWriters_gf :
    (after (.gfRcount 3) State.reset).gf.r ≠ 0 ∧ (after (.gfChkRangeNext 0) State.reset).gf.k ≠ 0 ∧
    (after (.gfEndLo 3) State.reset).gf.lo ≠ 0 ∧ (after (.gfChkGroupNext 0) State.reset).gf.grp ≠ 0 ∧
    (after (.gfStartHi 1) State.reset).gf.rbuf.read 0 = some 0x0100 ∧ State.reset.gf.rbuf.read 0 ≠ some 0x0100 ∧
    (after (.gfChkGroupLast 0) (withGf { GfState.reset with r := 1 })).gf.evR ≠ 0 ∧
    (after (.gfChkGroupLast 0) (withGf { GfState.reset with grp := 1 })).gf.evGi ≠ 0 ∧
    (after (.gfEndHi 1) State.reset).gf.acc ≠ 0 ∧ (after .gfEnd (gfAt .awaitEnd)).gf.st ≠ .awaitEnd := by decide

/-- For each event-pending flag, an instruction that sets it and one that clears it. -/
theorem witness_RegistersHaveListedWriters_evValid :
    (State.reset.pf.evValid = false ∧ (after .pfEnd State.reset).pf.evValid = true) ∧
    ((withPf { PfState.reset with evValid := true }).pf.evValid = true ∧
      (after (.evtAck .pf) (withPf { PfState.reset with evValid := true })).pf.evValid = false) ∧
    (State.reset.gf.evValid = false ∧ (after (.gfChkGroupNext 0) State.reset).gf.evValid = true) ∧
    ((withGf { GfState.reset with evValid := true }).gf.evValid = true ∧
      (after (.evtAck .gf) (withGf { GfState.reset with evValid := true })).gf.evValid = false) := by decide

/-- Two edges that offer bytes to a unit whose event is pending, with no acknowledge and no reset. -/
theorem witness_PendingEventHoldsUnit :
    let s : State := { State.reset with
      pf := { PfState.reset with evValid := true }, gf := { GfState.reset with st := .awaitEnd, evValid := true }
      host := [.edge (byteIn 0xFE) (byteIn 0), .edge (byteIn 0) (byteIn 0xFF)] }
    s.pf.evValid = true ∧ s.pf.st.used = true ∧ (∀ a ∈ s.host.take 2, a.pfIn.rst = false ∧ a.pfIn.evtReady = false) ∧
    s.gf.evValid = true ∧ s.gf.st.used = true ∧ (∀ a ∈ s.host.take 2, a.gfIn.rst = false ∧ a.gfIn.evtReady = false) := by
  decide

/-- V-PORT-5: a whole message offered to a GF in Terminal. -/
theorem witness_TerminalIsAbsorbing :
    let s : State := { gfAt .terminal with host := [offer .gf 0xFE, offer .gf 0, offer .gf 0, offer .gf 0xFF] }
    s.gf.st = .terminal ∧ s.gf.evValid = false ∧ ∀ a ∈ s.host.take 4, a.gfIn.rst = false := by decide

/-- 2.4: a message whose END was lost, and a new START. -/
theorem witness_LostEndKeepsMessage :
    let u : PfState := { PfState.reset with st := .awaitEnd, n := 1, cur := 2, pbuf := [(0, 0x12), (1, 0x34)] }
    u.st = .awaitEnd ∧ u.evValid = false ∧ ∀ b ∈ ([0xFE, 0x00] : List Byte), b ≠ endByte := by decide

/-- Units in AwaitStart whose registers and buffers hold an earlier message. -/
theorem witness_EarlierContentsUnobservable :
    (withPf { PfState.reset with n := 3, rem := 2, cur := 8, acc := 0xA0, pbuf := [(0, 1)] }).pf.st = .awaitStart ∧
    (withGf { GfState.reset with r := 2, k := 1, acc := 3, rbuf := [(0, 1)] }).gf.st = .awaitStart ∧
    (withGf { GfState.reset with r := 2, k := 1, acc := 3, rbuf := [(0, 1)] }).gf.grp = 0 := by decide

theorem witness_SumDetectsOneByte : (0x10 : Byte) ≠ 0x11 ∧ List.Perm ([1, 2] : List Byte) [2, 1] := by decide

theorem witness_PairIsHighTimes256PlusLow : pairHigh 0xAB 0xCD = 0xABCD := by decide

/-- A message of one packet of BPP = 2, and the empty message. -/
theorem witness_PacketMessageDecodes :
    c22.legal ∧ PfState.reset.st = .awaitStart ∧ ([[0x12, 0x34]] : List (List Byte)).length ≤ 255 ∧
    (∀ p ∈ ([[0x12, 0x34]] : List (List Byte)), p.length = c22.bpp) ∧
    ([] : List (List Byte)).length ≤ 255 ∧ ∀ p ∈ ([] : List (List Byte)), p.length = c22.bpp := by decide

/-- The longest message: 255 packets. -/
theorem witness_PacketMessageDecodes_longest :
    (List.replicate 255 ([0x12, 0x34] : List Byte)).length ≤ 255 ∧
    ∀ p ∈ List.replicate 255 ([0x12, 0x34] : List Byte), p.length = c22.bpp := by
  refine ⟨Nat.le_of_eq List.length_replicate, fun p hp => ?_⟩
  rw [(List.mem_replicate.1 hp).2]
  rfl

/-- L1-5: the second packet of two has a wrong checksum. -/
theorem witness_CorruptChecksumAborts :
    c22.legal ∧ PfState.reset.st = .awaitStart ∧ ([[1, 1]] : List (List Byte)).length < (2 : Byte).toNat ∧
    (∀ q ∈ ([[1, 1]] : List (List Byte)), q.length = c22.bpp) ∧ ([1, 1] : List Byte).length = c22.bpp ∧
    (3 : Byte) ≠ sum8 [1, 1] := by decide

/-- A group of no ranges and a group of two. -/
theorem witness_GroupMessageDecodes :
    c22.legal ∧ GfState.reset.st = .awaitStart ∧ GfState.reset.grp = 0 ∧
    ([[], [(0, 9), (20, 30)]] : List (List (Slot × Slot))).length = c22.groups ∧
    ∀ q ∈ ([[], [(0, 9), (20, 30)]] : List (List (Slot × Slot))), q.length ≤ 255 := by decide

/-- Runs of one step from reset, with a byte accepted at the edge after it. -/
theorem witness_RunsRefineTransactions :
    let s : State := { State.reset with host := [.edge (byteIn 0xFE) (byteIn 0xFE), .edge (byteIn 0) (byteIn 0)] }
    s.pf = PfState.reset ∧ s.gf = GfState.reset ∧ (∀ a ∈ s.host.take 1, a.pfIn.rst = false ∧ a.gfIn.rst = false) ∧
    pfAccepts (watchPf 1 s).1.pf (fetch (watchPf 1 s).1).pfIn = some 0 ∧
    gfAccepts (watchGf 1 s).1.gf (fetch (watchGf 1 s).1).gfIn = some 0 ∧
    step (watchPf 1 s).1 = .next { State.reset with
      tick := 2, pf := (pfAt .awaitEnd).pf, gf := (gfAt .awaitChecksum).gf } :=
  ⟨rfl, rfl, by decide, rfl, rfl, rfl⟩

end Sys2Proof.Tests
end

section
/-! PROOFS. Which parameters a build accepts (00_scope R6, R7). -/

namespace Sys2Proof.Proofs.Scope

open Sys2Proof.Config Sys2Proof.Machine

/-- A build gives the hardware of exactly the parameters asked for, and only when they are legal. -/
theorem build_eq_some_iff (b g : Nat) (c : Params) :
    Params.build b g = some c ↔ (⟨b, g⟩ : Params).legal ∧ ⟨b, g⟩ = c := by
  unfold Params.build
  split
  case isTrue hlegal => rw [Option.some.injEq, and_iff_right hlegal]
  case isFalse hillegal => exact ⟨nofun, fun ⟨hlegal, _⟩ => absurd hlegal hillegal⟩

/-- R6, R7: some hardware exists exactly for the legal parameters. -/
theorem exists_build_iff_legal (b g : Nat) :
    (∃ c, Params.build b g = some c) ↔ (⟨b, g⟩ : Params).legal := by
  constructor
  · rintro ⟨c, hbuild⟩
    exact ((build_eq_some_iff b g c).1 hbuild).1
  · intro hlegal
    exact ⟨⟨b, g⟩, (build_eq_some_iff b g _).2 ⟨hlegal, rfl⟩⟩

/-- Legal parameters are the build of their own two values. -/
theorem build_of_legal (c : Params) (hlegal : c.legal) : Params.build c.bpp c.groups = some c :=
  (build_eq_some_iff c.bpp c.groups c).2 ⟨hlegal, rfl⟩

/-- Settles O29: the range is `Params.legal` by `exists_build_iff_legal`, and the machine's opaque parameters are in it
by `params_legal`. -/
theorem buildAcceptsLegalParameters : Obligations.BuildAcceptsLegalParameters :=
  ⟨exists_build_iff_legal, build_of_legal params params_legal⟩

end Sys2Proof.Proofs.Scope
end

section
/-! PROOFS. The transaction level (41_packet_framer R68, 42_group_framer R80) by control state, in the named operations of
Machine/Ops.lean, and the event a transaction emits. -/

namespace Sys2Proof.Proofs.Transactions

open Sys2Proof.Config Sys2Proof.Machine

/-! ### The PF -/

section Pf

variable {u : PfState} (c : Params) (b : Byte)

/-- R69, R70. -/
theorem pfTxn_awaitStart (h : u.st = .awaitStart) :
    pfTxn c u b = (u.setSt (if b = startByte then .awaitCount else .awaitStart), none) := by
  simp only [pfTxn, h]; rfl

/-- R28: an unused code reads a byte as AwaitStart does. -/
theorem pfTxn_unused {n : Fin 3} (h : u.st = .unused n) :
    pfTxn c u b = (u.setSt (if b = startByte then .awaitCount else .awaitStart), none) := by
  simp only [pfTxn, h]; rfl

/-- R71, R72. -/
theorem pfTxn_awaitCount (h : u.st = .awaitCount) :
    pfTxn c u b = ((u.loadCount b).setSt (if b = 0 then .awaitEnd else .awaitPacketByte), none) := by
  simp only [pfTxn, h]; rfl

/-- R73, R74. -/
theorem pfTxn_awaitPacketByte (h : u.st = .awaitPacketByte) :
    pfTxn c u b =
      ((u.storePayload c b).setSt (if (u.cur + 1) % c.bpp = 0 then .awaitChecksum else .awaitPacketByte), none) := by
  simp only [pfTxn, h]; rfl

/-- R75, R76, R77. -/
theorem pfTxn_awaitChecksum (h : u.st = .awaitChecksum) :
    pfTxn c u b =
      (if b = u.acc then
        if 2 ≤ u.rem.toNat then u.nextPacket.setSt .awaitPacketByte else u.lastPacket.setSt .awaitEnd
       else u.abort, none) := by
  simp only [pfTxn, h, ne_eq, ite_not]
  split
  · split <;> rfl
  · rfl

/-- R78, R79. -/
theorem pfTxn_awaitEnd (h : u.st = .awaitEnd) :
    pfTxn c u b =
      if b = endByte then
        (u.raiseEom.setSt .awaitStart, some { payload := u.pbuf.slice 0 (u.n.toNat * c.bpp), count := u.n })
      else (u, none) := by
  simp only [pfTxn, h]; rfl

/-- A transaction of the PF emits an event exactly in AwaitEnd on the end marker (R78). -/
theorem pfTxn_event_iff (e : Eom) :
    (pfTxn c u b).2 = some e ↔
      u.st = .awaitEnd ∧ b = endByte ∧ e = { payload := u.pbuf.slice 0 (u.n.toNat * c.bpp), count := u.n } := by
  cases h : u.st with
  | awaitEnd =>
    rw [pfTxn_awaitEnd c b h]
    split <;> simp_all [eq_comm]
  | awaitStart => simp [pfTxn_awaitStart c b h]
  | awaitCount => simp [pfTxn_awaitCount c b h]
  | awaitPacketByte => simp [pfTxn_awaitPacketByte c b h]
  | awaitChecksum => simp [pfTxn_awaitChecksum c b h]
  | unused n => simp [pfTxn_unused c b h]

end Pf

/-! ### The GF -/

section Gf

variable {u : GfState} (c : Params) (b : Byte)

/-- R82, R83. -/
theorem gfTxn_awaitStart (h : u.st = .awaitStart) :
    gfTxn c u b = (u.setSt (if b = startByte then .awaitRangeCount else .awaitStart), none) := by
  simp only [gfTxn, h]; rfl

/-- R28: an unused code reads a byte as AwaitStart does, with grp cleared. -/
theorem gfTxn_unused {n : Fin 7} (h : u.st = .unused n) :
    gfTxn c u b = (u.recover.setSt (if b = startByte then .awaitRangeCount else .awaitStart), none) := by
  simp only [gfTxn, GfState.recover, h]; rfl

/-- R84, R85. -/
theorem gfTxn_awaitRangeCount (h : u.st = .awaitRangeCount) :
    gfTxn c u b = ((u.loadRangeCount b).setSt (if b = 0 then .awaitChecksum else .awaitStartLow), none) := by
  simp only [gfTxn, h]; rfl

/-- R86. -/
theorem gfTxn_awaitStartLow (h : u.st = .awaitStartLow) :
    gfTxn c u b = ((u.takeLow b).setSt .awaitStartHigh, none) := by
  simp only [gfTxn, h]; rfl

/-- R87. -/
theorem gfTxn_awaitStartHigh (h : u.st = .awaitStartHigh) :
    gfTxn c u b = ((u.takeHigh u.startSlot b).setSt .awaitEndLow, none) := by
  simp only [gfTxn, h]; rfl

/-- R88. -/
theorem gfTxn_awaitEndLow (h : u.st = .awaitEndLow) :
    gfTxn c u b = ((u.takeLow b).setSt .awaitEndHigh, none) := by
  simp only [gfTxn, h]; rfl

/-- R89. -/
theorem gfTxn_awaitEndHigh (h : u.st = .awaitEndHigh) :
    gfTxn c u b = ((u.takeHigh u.endSlot b).setSt .awaitChecksum, none) := by
  simp only [gfTxn, h]; rfl

/-- R90, R91, R92, R93. -/
theorem gfTxn_awaitChecksum (h : u.st = .awaitChecksum) :
    gfTxn c u b =
      if b = u.acc then
        if u.k.toNat + 1 < u.r.toNat then (u.nextRange.setSt .awaitStartLow, none)
        else (u.raiseGrp.setSt (if u.grp.toNat + 1 < c.groups then .awaitRangeCount else .awaitEnd),
          some { ranges := u.rbuf.slice 0 (2 * u.r.toNat), count := u.r, groupIndex := u.grp })
      else (u.abort, none) := by
  simp only [gfTxn, h, ne_eq, ite_not]; rfl

/-- R94, R95. -/
theorem gfTxn_awaitEnd (h : u.st = .awaitEnd) :
    gfTxn c u b = (u.setSt (if b = endByte then .terminal else .awaitEnd), none) := by
  simp only [gfTxn, h]; rfl

/-- R96. -/
theorem gfTxn_terminal (h : u.st = .terminal) : gfTxn c u b = (u, none) := by
  simp only [gfTxn, h]

/-- A transaction of the GF emits an event exactly on a matching checksum that completes its group (R92, R93). -/
theorem gfTxn_event_iff (e : Grp) :
    (gfTxn c u b).2 = some e ↔
      u.st = .awaitChecksum ∧ b = u.acc ∧ u.r.toNat ≤ u.k.toNat + 1 ∧
      e = { ranges := u.rbuf.slice 0 (2 * u.r.toNat), count := u.r, groupIndex := u.grp } := by
  cases h : u.st with
  | awaitChecksum =>
    rw [gfTxn_awaitChecksum c b h]
    split
    · split
      case isTrue hk => simp [Nat.not_le.2 hk]
      case isFalse hk => simp_all [eq_comm]
    · simp_all
  | awaitStart => simp [gfTxn_awaitStart c b h]
  | awaitRangeCount => simp [gfTxn_awaitRangeCount c b h]
  | awaitStartLow => simp [gfTxn_awaitStartLow c b h]
  | awaitStartHigh => simp [gfTxn_awaitStartHigh c b h]
  | awaitEndLow => simp [gfTxn_awaitEndLow c b h]
  | awaitEndHigh => simp [gfTxn_awaitEndHigh c b h]
  | awaitEnd => simp [gfTxn_awaitEnd c b h]
  | terminal => simp [gfTxn_terminal c b h]
  | unused n => simp [gfTxn_unused c b h]

end Gf

end Sys2Proof.Proofs.Transactions
end

section
/-! PROOFS. What one step does to each unit: a rising edge moves each unit by a function of its own state and inputs
(43_control R98), and a read changes neither. -/

namespace Sys2Proof.Proofs.Edge

open Sys2Proof.Config Sys2Proof.Machine Sys2Proof.Proofs.Transactions

/-- The PF after an edge, by the priority of R98; `step_edge` ties it to `step`. -/
def pfEdge (c : Params) (p : PortIn) (u : PfState) : PfState :=
  if p.rst then PfState.reset
  else if u.evValid && p.evtReady then u.ack
  else if p.inValid && !u.evValid then (pfTxn c u p.inData).1
  else u.recover

/-- The GF after an edge, by the priority of R98; `step_edge` ties it to `step`. -/
def gfEdge (c : Params) (g : PortIn) (u : GfState) : GfState :=
  if g.rst then GfState.reset
  else if u.evValid && g.evtReady then u.ack
  else if g.inValid && !u.evValid then (gfTxn c u g.inData).1
  else u.recover

/-! ### Recovery of an unused code (10_state R28) -/

theorem pfRecover_of_unused {u : PfState} {n : Fin 3} (h : u.st = .unused n) : u.recover = u.setSt .awaitStart := by
  simp only [PfState.recover, h]; rfl

theorem gfRecover_of_unused {u : GfState} {n : Fin 7} (h : u.st = .unused n) :
    u.recover = { u with st := .awaitStart, grp := 0 } := by
  simp only [GfState.recover, h]

/-- A PF control state is one of the named ones or an unused code. -/
theorem pfSt_used_or_unused (x : PfSt) : x.used = true ∨ ∃ n, x = .unused n := by
  cases x with
  | unused n => exact .inr ⟨n, rfl⟩
  | _ => exact .inl rfl

/-- A GF control state is one of the named ones or an unused code. -/
theorem gfSt_used_or_unused (x : GfSt) : x.used = true ∨ ∃ n, x = .unused n := by
  cases x with
  | unused n => exact .inr ⟨n, rfl⟩
  | _ => exact .inl rfl

theorem pfRecover_used (u : PfState) : u.recover.st.used = true := by
  obtain h | ⟨n, h⟩ := pfSt_used_or_unused u.st
  · rwa [u.recover_of_used h]
  · rw [pfRecover_of_unused h]; rfl

theorem gfRecover_used (u : GfState) : u.recover.st.used = true := by
  obtain h | ⟨n, h⟩ := gfSt_used_or_unused u.st
  · rwa [u.recover_of_used h]
  · rw [gfRecover_of_unused h]; rfl

/-- A byte meets the recovered unit as it meets the unit itself: the transaction is the same. -/
theorem pfTxn_recover (c : Params) (u : PfState) (b : Byte) : pfTxn c u.recover b = pfTxn c u b := by
  obtain h | ⟨n, h⟩ := pfSt_used_or_unused u.st
  · rw [u.recover_of_used h]
  · rw [pfTxn_unused c b h, pfRecover_of_unused h, pfTxn_awaitStart c b rfl]; rfl

theorem gfTxn_recover (c : Params) (u : GfState) (b : Byte) : gfTxn c u.recover b = gfTxn c u b := by
  obtain h | ⟨n, h⟩ := gfSt_used_or_unused u.st
  · rw [u.recover_of_used h]
  · have hst : u.recover.st = .awaitStart := by rw [gfRecover_of_unused h]
    rw [gfTxn_unused c b h, gfTxn_awaitStart c b hst]

/-- A byte meets the recovered unit as it meets the unit itself: it selects the same row. -/
theorem decodePfByte_recover (c : Params) (u : PfState) (b : Byte) :
    decodePfByte c u.recover b = decodePfByte c u b := by
  obtain h | ⟨n, h⟩ := pfSt_used_or_unused u.st
  · rw [u.recover_of_used h]
  · rw [pfRecover_of_unused h]
    simp only [decodePfByte, h, PfState.setSt_st]

theorem decodeGfByte_recover (c : Params) (u : GfState) (b : Byte) :
    decodeGfByte c u.recover b = decodeGfByte c u b := by
  obtain h | ⟨n, h⟩ := gfSt_used_or_unused u.st
  · rw [u.recover_of_used h]
  · rw [gfRecover_of_unused h]
    simp only [decodeGfByte, h]

/-! ### A selected transition performs the transaction -/

/-- In a named state, the row a byte selects does to the machine what the transaction does to the PF. -/
theorem exec_decodePfByte_of_used (s : State) (b : Byte) (h : s.pf.st.used = true) :
    exec (decodePfByte params s.pf b) s = .next (s.setPf (pfTxn params s.pf b).1) := by
  cases hst : s.pf.st with
  | awaitStart =>
    simp only [decodePfByte, hst, pfTxn_awaitStart params b hst]
    split
    · rfl
    · rw [← hst]; rfl
  | awaitCount =>
    simp only [decodePfByte, hst, pfTxn_awaitCount params b hst]
    split
    · subst b; rfl
    · rfl
  | awaitPacketByte =>
    simp only [decodePfByte, hst, pfTxn_awaitPacketByte params b hst]
    split
    · rfl
    · rw [← hst]; rfl
  | awaitChecksum =>
    simp only [decodePfByte, hst, pfTxn_awaitChecksum params b hst]
    split
    · split <;> rfl
    · rfl
  | awaitEnd =>
    simp only [decodePfByte, hst, pfTxn_awaitEnd params b hst]
    split <;> rfl
  | unused n => simp [hst, PfSt.used] at h

/-- In a named state, the row a byte selects does to the machine what the transaction does to the GF. -/
theorem exec_decodeGfByte_of_used (s : State) (b : Byte) (h : s.gf.st.used = true) :
    exec (decodeGfByte params s.gf b) s = .next (s.setGf (gfTxn params s.gf b).1) := by
  cases hst : s.gf.st with
  | awaitStart =>
    simp only [decodeGfByte, hst, gfTxn_awaitStart params b hst]
    split
    · rfl
    · rw [← hst]; rfl
  | awaitRangeCount =>
    simp only [decodeGfByte, hst, gfTxn_awaitRangeCount params b hst]
    split
    · subst b; rfl
    · rfl
  | awaitStartLow => simp only [decodeGfByte, hst, gfTxn_awaitStartLow params b hst]; rfl
  | awaitStartHigh => simp only [decodeGfByte, hst, gfTxn_awaitStartHigh params b hst]; rfl
  | awaitEndLow => simp only [decodeGfByte, hst, gfTxn_awaitEndLow params b hst]; rfl
  | awaitEndHigh => simp only [decodeGfByte, hst, gfTxn_awaitEndHigh params b hst]; rfl
  | awaitChecksum =>
    simp only [decodeGfByte, hst, gfTxn_awaitChecksum params b hst]
    split
    · split
      · rfl
      · split <;> rfl
    · rfl
  | awaitEnd =>
    simp only [decodeGfByte, hst, gfTxn_awaitEnd params b hst]
    split
    · rfl
    · rw [← hst]; rfl
  | terminal => simp only [decodeGfByte, hst, gfTxn_terminal params b hst]; rfl
  | unused n => simp [hst, GfSt.used] at h

/-- The row a byte selects before an edge, performed once unused codes have recovered. -/
theorem exec_decodePfByte {s : State} {u : PfState} (b : Byte) (h : s.pf = u.recover) :
    exec (decodePfByte params u b) s = .next (s.setPf (pfTxn params u b).1) := by
  rw [← decodePfByte_recover, ← pfTxn_recover, ← h]
  exact exec_decodePfByte_of_used s b (h ▸ pfRecover_used u)

theorem exec_decodeGfByte {s : State} {u : GfState} (b : Byte) (h : s.gf = u.recover) :
    exec (decodeGfByte params u b) s = .next (s.setGf (gfTxn params u b).1) := by
  rw [← decodeGfByte_recover, ← gfTxn_recover, ← h]
  exact exec_decodeGfByte_of_used s b (h ▸ gfRecover_used u)

/-! ### An edge -/

theorem setPf_self (s : State) : s.setPf s.pf = s := rfl

theorem setGf_self (s : State) : s.setGf s.gf = s := rfl

/-- What the PF selects at an edge moves it by `pfEdge`, and the instructions after it go on from there. -/
theorem runInstrs_decodePf {s : State} {u : PfState} (p : PortIn) (is : List Instr) (h : s.pf = recoverPf p u) :
    runInstrs ((decodePf params u p).toList ++ is) s = runInstrs is (s.setPf (pfEdge params p u)) := by
  obtain ⟨hrst, hd⟩ | ⟨hrst, hev, hack, hd⟩ | ⟨hrst, hev, hin, hd⟩ | ⟨hrst, hidle, hd⟩ := decodePf_cases params u p
  · simp only [hd, Option.toList_some, List.singleton_append]
    rw [runInstrs_cons_next (t := s.setPf PfState.reset) rfl]
    simp [pfEdge, hrst]
  · have hs : s.pf = u := by simpa [recoverPf, hev, hack] using h
    simp only [hd, Option.toList_some, List.singleton_append]
    rw [runInstrs_cons_next (t := s.setPf s.pf.ack) rfl]
    simp [pfEdge, hrst, hev, hack, hs]
  · have hs : s.pf = u.recover := by simpa [recoverPf, hrst, hev] using h
    simp only [hd, Option.toList_some, List.singleton_append]
    rw [runInstrs_cons_next (exec_decodePfByte p.inData hs)]
    simp [pfEdge, hrst, hev, hin]
  · have hedge : pfEdge params p u = s.pf := by
      obtain ⟨hev, hack⟩ | ⟨hev, hin⟩ := hidle
      · simp [pfEdge, recoverPf, h, hrst, hev, hack]
      · simp [pfEdge, recoverPf, h, hrst, hev, hin]
    simp [hd, hedge, setPf_self]

/-- What the GF selects at an edge moves it by `gfEdge`. -/
theorem runInstrs_decodeGf {s : State} {u : GfState} (g : PortIn) (h : s.gf = recoverGf g u) :
    runInstrs (decodeGf params u g).toList s = .next (s.setGf (gfEdge params g u)) := by
  obtain ⟨hrst, hd⟩ | ⟨hrst, hev, hack, hd⟩ | ⟨hrst, hev, hin, hd⟩ | ⟨hrst, hidle, hd⟩ := decodeGf_cases params u g
  · simp only [hd, Option.toList_some, runInstrs_singleton, gfEdge, hrst, if_true]
    rfl
  · have hs : s.gf = u := by simpa [recoverGf, hev, hack] using h
    have hedge : gfEdge params g u = s.gf.ack := by simp [gfEdge, hrst, hev, hack, hs]
    rw [hedge, hd, Option.toList_some, runInstrs_singleton]
    rfl
  · have hs : s.gf = u.recover := by simpa [recoverGf, hrst, hev] using h
    simp only [hd, Option.toList_some, runInstrs_singleton, exec_decodeGfByte g.inData hs]
    simp [gfEdge, hrst, hev, hin]
  · have hedge : gfEdge params g u = s.gf := by
      obtain ⟨hev, hack⟩ | ⟨hev, hin⟩ := hidle
      · simp [gfEdge, recoverGf, h, hrst, hev, hack]
      · simp [gfEdge, recoverGf, h, hrst, hev, hin]
    simp [hd, hedge, setGf_self]

/-- A step at an edge: each unit moves by its own state and inputs alone (R47, R98), and the model's own fields take note of
the edge. -/
theorem step_edge {s : State} {p g : PortIn} (h : fetch s = .edge p g) :
    step s = .next { s with
      pf := pfEdge params p s.pf, gf := gfEdge params g s.gf, host := s.host.tail, tick := s.tick + 1 } := by
  rw [step, h, decode, runInstrs_decodePf p _ rfl, runInstrs_decodeGf g rfl]
  rfl

/-- A step that is a read between edges changes neither unit (R104). -/
theorem step_read {s : State} {r : UnitId} {a : Nat} (h : fetch s = .read r a) :
    ∃ t, step s = .next t ∧ t.pf = s.pf ∧ t.gf = s.gf := by
  rw [step, h, decode, runInstrs_singleton]
  cases r with
  | pf => exact ⟨_, rfl, rfl, rfl⟩
  | gf => exact ⟨_, rfl, rfl, rfl⟩

end Sys2Proof.Proofs.Edge
end

section
/-! PROOFS. The invariant of 10_state R30 and R31: one clause per control state, kept by every transaction, by every edge
and so by every step. -/

namespace Sys2Proof.Proofs.Invariant

open Sys2Proof.Config Sys2Proof.Machine Sys2Proof.Proofs.Transactions Sys2Proof.Proofs.Edge

/-! ### Buffers -/

theorem written_zero {w : Nat} (m : Memory w) : m.written 0 := fun _ hi => absurd hi (Nat.not_lt_zero _)

/-- One more element is written by a write right after the written ones. -/
theorem written_write_succ {w cap i : Nat} {m : Memory w} (v : BitVec w) (hm : m.written i) (hi : i < cap) :
    (m.write cap i v).written (i + 1) := by
  intro a ha
  rw [Memory.read_write]
  split
  · rfl
  · exact hm a (by omega)

/-- What was written below an index stays written. -/
theorem written_write {w cap len i : Nat} {m : Memory w} (v : BitVec w) (hm : m.written len) :
    (m.write cap i v).written len :=
  fun a ha => Memory.isSome_read_write cap m i a v (hm a ha)

/-- A sum grows by the byte that is written right after its elements (R73). -/
theorem sumFrom_write_succ {cap a len : Nat} {m : Memory 8} (v : Byte) (hi : a + len < cap) :
    (m.write cap (a + len) v).sumFrom a (len + 1) = m.sumFrom a len + v := by
  have hbelow : (m.write cap (a + len) v).sumFrom a len = m.sumFrom a len :=
    Memory.sumFrom_congr _ _ a len fun i hlt => by rw [Memory.read_write, if_neg (by omega)]
  rw [Memory.sumFrom_succ, hbelow, Memory.read_write, if_pos ⟨rfl, hi⟩, Option.getD_some]

@[simp] theorem length_slice {w : Nat} (m : Memory w) (a len : Nat) : (m.slice a len).length = len := by
  simp [Memory.slice]

/-- A slice of written elements holds a value everywhere. -/
theorem isSome_of_mem_slice {w len : Nat} {m : Memory w} (hm : m.written len) :
    ∀ o ∈ m.slice 0 len, o.isSome = true := by
  intro o ho
  obtain ⟨i, hi, rfl⟩ := List.mem_map.1 ho
  rw [Nat.zero_add]
  exact hm i (List.mem_range.1 hi)

/-- The two bytes of a slot sum to the two bytes it was put together from (40_datapath R66). -/
theorem slotSum_pairHigh (hi lo : Byte) : slotSum (some (pairHigh hi lo)) = lo + hi := by
  have hlo : loByte (hi ++ lo) = lo := BitVec.extractLsb'_append_eq_right
  have hhi : hiByte (hi ++ lo) = hi := BitVec.extractLsb'_append_eq_left
  rw [pairHigh_eq_append, slotSum, Option.getD_some, hlo, hhi]

/-! ### The PF -/

/-- What R30 says of the PF in a given control state, as long as the unit is in it. -/
def PfClause (c : Params) (u : PfState) : PfSt → Prop
  | .awaitStart => True
  | .awaitCount => True
  | .awaitPacketByte =>
    1 ≤ u.rem.toNat ∧ u.rem.toNat ≤ u.n.toNat ∧
    u.packet * c.bpp ≤ u.cur ∧ u.cur < (u.packet + 1) * c.bpp ∧
    u.acc = u.pbuf.sumFrom (u.packet * c.bpp) (u.cur - u.packet * c.bpp) ∧ u.pbuf.written u.cur
  | .awaitChecksum =>
    1 ≤ u.rem.toNat ∧ u.rem.toNat ≤ u.n.toNat ∧ u.cur = (u.packet + 1) * c.bpp ∧
    u.acc = u.pbuf.sumFrom (u.packet * c.bpp) (u.cur - u.packet * c.bpp) ∧ u.pbuf.written u.cur
  | .awaitEnd => u.rem = 0 ∧ u.cur = u.n.toNat * c.bpp ∧ u.pbuf.written (u.n.toNat * c.bpp)
  | .unused _ => False

/-- What R30 and R32 say of the PF while its event is pending. -/
def PfEventClause (c : Params) (u : PfState) : Prop :=
  u.st = .awaitStart ∧ u.evN = u.n ∧ u.pbuf.written (u.n.toNat * c.bpp)

/-- The invariant is the clause of the control state the unit is in, and the clauses that hold in all of them. -/
theorem pfInv_iff (c : Params) (u : PfState) :
    PfInv c u ↔ u.pbuf.wf (pbufCap c) = true ∧ u.cur ≤ pbufCap c ∧ PfClause c u u.st ∧
      (u.evValid = true → PfEventClause c u) := by
  constructor
  · rintro ⟨hbuf, hnamed, hcur, hbyte, hchk, hend, hev⟩
    refine ⟨hbuf, hcur, ?_, hev⟩
    cases hst : u.st with
    | awaitStart => trivial
    | awaitCount => trivial
    | awaitPacketByte => exact hbyte hst
    | awaitChecksum => exact hchk hst
    | awaitEnd => exact hend hst
    | unused n => simp [hst, PfSt.used] at hnamed
  · rintro ⟨hbuf, hcur, hclause, hev⟩
    refine ⟨hbuf, ?_, hcur, fun hst => ?_, fun hst => ?_, fun hst => ?_, hev⟩
    · cases hst : u.st with
      | unused n => simp [hst, PfClause] at hclause
      | _ => rfl
    all_goals simpa only [hst, PfClause] using hclause

/-- The invariant of a PF with no event pending. -/
theorem pfInv_of_clause {c : Params} {u : PfState} (hbuf : u.pbuf.wf (pbufCap c) = true) (hcur : u.cur ≤ pbufCap c)
    (hclause : PfClause c u u.st) (hev : u.evValid = false) : PfInv c u :=
  (pfInv_iff c u).2 ⟨hbuf, hcur, hclause, fun h => by simp [hev] at h⟩

/-- A place inside packet `p` is its last exactly when it is the last before a multiple of BPP (30_encoding R57). -/
theorem succ_mod_eq_zero_iff {bpp p cur : Nat} (hlo : p * bpp ≤ cur) (hhi : cur < (p + 1) * bpp) :
    (cur + 1) % bpp = 0 ↔ cur + 1 = (p + 1) * bpp := by
  obtain ⟨place, rfl⟩ := Nat.exists_eq_add_of_le hlo
  rw [Nat.succ_mul] at hhi ⊢
  rw [Nat.add_assoc, Nat.mul_add_mod_self_right]
  obtain hlast | hroom : place + 1 = bpp ∨ place + 1 < bpp := by omega
  · simp [hlast]
  · rw [Nat.mod_eq_of_lt hroom]
    omega

@[simp] theorem packet_storePayload (c : Params) (u : PfState) (b : Byte) (x : PfSt) :
    ((u.storePayload c b).setSt x).packet = u.packet := rfl

@[simp] theorem packet_loadCount (u : PfState) (b : Byte) (x : PfSt) : ((u.loadCount b).setSt x).packet = 0 :=
  Nat.sub_self _

/-- R73, R74: a payload byte keeps the invariant, inside a packet and at its end. -/
theorem pfInv_payload {c : Params} (hc : c.legal) {u : PfState} (b : Byte) (h : PfInv c u)
    (hst : u.st = .awaitPacketByte) (hev : u.evValid = false) : PfInv c (pfTxn c u b).1 := by
  obtain ⟨hrem, hremn, hlo, hhi, hacc, hwritten⟩ := h.packetByte hst
  have hpacket : u.packet + 1 ≤ u.n.toNat := by unfold PfState.packet; omega
  have hcap : (u.packet + 1) * c.bpp ≤ pbufCap c := Nat.mul_le_mul_right _ (by omega)
  have hcur : u.cur < pbufCap c := by omega
  have hnext : curNext c u.cur = u.cur + 1 := curNext_eq c u.cur hc.1 hcur
  have hsum : u.acc + b =
      (u.pbuf.write (pbufCap c) u.cur b).sumFrom (u.packet * c.bpp) (u.cur + 1 - u.packet * c.bpp) := by
    have hlen : u.packet * c.bpp + (u.cur - u.packet * c.bpp) = u.cur := by omega
    have hgrow := sumFrom_write_succ (m := u.pbuf) b (hlen.symm ▸ hcur)
    rw [hlen, ← hacc] at hgrow
    rw [← hgrow, Nat.sub_add_comm hlo]
  have hw := written_write_succ b hwritten hcur
  rw [pfTxn_awaitPacketByte c b hst]
  refine pfInv_of_clause (Memory.wf_write _ _ _ _ h.buffer) (by simpa [hnext] using hcur) ?_ hev
  split
  case isTrue hlast =>
    have hfull := (succ_mod_eq_zero_iff hlo hhi).1 hlast
    exact ⟨hrem, hremn, hnext.trans hfull, by simpa [hnext] using hsum, by simpa [hnext] using hw⟩
  case isFalse hlast =>
    have hroom : u.cur + 1 ≠ (u.packet + 1) * c.bpp := mt (succ_mod_eq_zero_iff hlo hhi).2 hlast
    refine ⟨hrem, hremn, ?_, ?_, by simpa [hnext] using hsum, by simpa [hnext] using hw⟩
    · show u.packet * c.bpp ≤ curNext c u.cur
      omega
    · show curNext c u.cur < (u.packet + 1) * c.bpp
      omega

/-- R75, R76, R77: a checksum byte keeps the invariant. -/
theorem pfInv_checksum {c : Params} (hc : c.legal) {u : PfState} (b : Byte) (h : PfInv c u)
    (hst : u.st = .awaitChecksum) (hev : u.evValid = false) : PfInv c (pfTxn c u b).1 := by
  obtain ⟨hrem, hremn, hcur, -, hwritten⟩ := h.checksum hst
  rw [pfTxn_awaitChecksum c b hst]
  dsimp only
  split
  case isFalse => exact pfInv_of_clause h.buffer h.cursor trivial hev
  split
  case isTrue hmore =>
    have hrem' : (u.rem - 1).toNat = u.rem.toNat - 1 := by bv_omega
    have hpacket : (u.nextPacket.setSt .awaitPacketByte).packet = u.packet + 1 := by
      simp only [PfState.packet, PfState.setSt_n, PfState.setSt_rem, PfState.nextPacket_n, PfState.nextPacket_rem]
      omega
    refine pfInv_of_clause h.buffer h.cursor ⟨?_, ?_, ?_, ?_, ?_, hwritten⟩ hev
    · simp only [PfState.setSt_rem, PfState.nextPacket_rem]
      omega
    · simp only [PfState.setSt_rem, PfState.nextPacket_rem, PfState.setSt_n, PfState.nextPacket_n]
      omega
    · rw [hpacket]
      exact hcur.ge
    · rw [hpacket, Nat.add_mul _ 1]
      show u.cur < _
      have := hc.1
      omega
    · rw [hpacket, PfState.setSt_cur, PfState.nextPacket_cur, hcur, Nat.sub_self]
      rfl
  case isFalse hlast =>
    have hfull : u.packet + 1 = u.n.toNat := by unfold PfState.packet; omega
    rw [hfull] at hcur
    exact pfInv_of_clause h.buffer h.cursor ⟨rfl, hcur, hcur ▸ hwritten⟩ hev

/-- R71, R72: a count byte establishes the clause of the state it leads to, whatever the registers held. -/
theorem pfInv_count {c : Params} (hc : c.legal) {u : PfState} (b : Byte) (hst : u.st = .awaitCount)
    (hev : u.evValid = false) : PfInv c (pfTxn c u b).1 := by
  rw [pfTxn_awaitCount c b hst]
  refine pfInv_of_clause rfl (Nat.zero_le _) ?_ hev
  split
  case isTrue hzero =>
    subst b
    exact ⟨rfl, (Nat.zero_mul _).symm, (Nat.zero_mul c.bpp).symm ▸ written_zero _⟩
  case isFalse hpos =>
    refine ⟨?_, le_rfl, ?_, ?_, ?_, written_zero _⟩
    · show 1 ≤ b.toNat
      bv_omega
    · rw [packet_loadCount, Nat.zero_mul]
      exact Nat.zero_le _
    · rw [packet_loadCount, Nat.zero_add, Nat.one_mul]
      exact hc.1
    · simp

/-- R30: every transaction of the PF keeps the invariant. -/
theorem pfInv_pfTxn {c : Params} (hc : c.legal) {u : PfState} (b : Byte) (h : PfInv c u) (hev : u.evValid = false) :
    PfInv c (pfTxn c u b).1 := by
  cases hst : u.st with
  | awaitStart =>
    rw [pfTxn_awaitStart c b hst]
    refine pfInv_of_clause h.buffer h.cursor ?_ hev
    split <;> trivial
  | awaitCount => exact pfInv_count hc b hst hev
  | awaitPacketByte => exact pfInv_payload hc b h hst hev
  | awaitChecksum => exact pfInv_checksum hc b h hst hev
  | awaitEnd =>
    obtain ⟨-, -, hwritten⟩ := h.awaitEnd hst
    rw [pfTxn_awaitEnd c b hst]
    split
    · exact (pfInv_iff _ _).2 ⟨h.buffer, h.cursor, trivial, fun _ => ⟨rfl, rfl, hwritten⟩⟩
    · exact h
  | unused n => simpa [hst, PfSt.used] using h.named

theorem pfInv_reset (c : Params) : PfInv c PfState.reset :=
  pfInv_of_clause rfl (Nat.zero_le _) trivial rfl

/-- R103: an acknowledge keeps the invariant. -/
theorem pfInv_ack {c : Params} {u : PfState} (h : PfInv c u) : PfInv c u.ack := by
  obtain ⟨hbuf, hcur, hclause, -⟩ := (pfInv_iff c u).1 h
  refine pfInv_of_clause hbuf hcur ?_ rfl
  rw [PfState.ack_st]
  cases hst : u.st <;> rw [hst] at hclause <;> exact hclause

/-- R30: every edge keeps the PF's invariant. -/
theorem pfInv_pfEdge {c : Params} (hc : c.legal) {u : PfState} (p : PortIn) (h : PfInv c u) : PfInv c (pfEdge c p u) := by
  unfold pfEdge
  split
  · exact pfInv_reset c
  split
  · exact pfInv_ack h
  split
  case isTrue hin => exact pfInv_pfTxn hc p.inData h (by simpa using (Bool.and_eq_true_iff.1 hin).2)
  case isFalse => rwa [u.recover_of_used h.named]

/-! ### The GF -/

/-- R31 inside a range: the group has ranges, range k is one of them, and all slots before it are written. -/
def InRange (u : GfState) : Prop := 1 ≤ u.r.toNat ∧ u.k.toNat < u.r.toNat ∧ u.rbuf.written (2 * u.k.toNat)

/-- What R31 says of the GF in a given control state, as long as the unit is in it. -/
def GfClause (c : Params) (u : GfState) : GfSt → Prop
  | .awaitStart => u.grp = 0
  | .awaitRangeCount => u.grp.toNat < c.groups
  | .awaitStartLow => u.grp.toNat < c.groups ∧ InRange u ∧ u.acc = u.r
  | .awaitStartHigh => u.grp.toNat < c.groups ∧ InRange u ∧ u.acc = u.r + u.lo
  | .awaitEndLow =>
    u.grp.toNat < c.groups ∧ InRange u ∧ (u.rbuf.read (2 * u.k.toNat)).isSome = true ∧
    u.acc = u.r + slotSum (u.rbuf.read (2 * u.k.toNat))
  | .awaitEndHigh =>
    u.grp.toNat < c.groups ∧ InRange u ∧ (u.rbuf.read (2 * u.k.toNat)).isSome = true ∧
    u.acc = u.r + slotSum (u.rbuf.read (2 * u.k.toNat)) + u.lo
  | .awaitChecksum =>
    u.grp.toNat < c.groups ∧ (u.r = 0 → u.k = 0 ∧ u.acc = 0) ∧
    (1 ≤ u.r.toNat →
      u.k.toNat < u.r.toNat ∧ u.rbuf.written (2 * u.k.toNat + 2) ∧
      u.acc = u.r + slotSum (u.rbuf.read (2 * u.k.toNat)) + slotSum (u.rbuf.read (2 * u.k.toNat + 1)))
  | .awaitEnd => u.grp.toNat = c.groups
  | .terminal => u.grp.toNat = c.groups
  | .unused _ => False

/-- What R31 and R32 say of the GF while its event is pending. -/
def GfEventClause (u : GfState) : Prop :=
  u.st ∈ [GfSt.awaitRangeCount, .awaitEnd] ∧ u.evR = u.r ∧ u.evGi.toNat + 1 = u.grp.toNat ∧
  u.rbuf.written (2 * u.r.toNat)

/-- The invariant is the clause of the control state the unit is in, and the clauses that hold in all of them. -/
theorem gfInv_iff (c : Params) (u : GfState) :
    GfInv c u ↔ u.rbuf.wf rbufCap = true ∧ GfClause c u u.st ∧ (u.evValid = true → GfEventClause u) := by
  constructor
  · intro h
    refine ⟨h.buffer, ?_, h.event⟩
    cases hst : u.st with
    | awaitStart => exact h.awaitStart hst
    | awaitRangeCount => exact h.inMessage (by simp [hst])
    | awaitStartLow => exact ⟨h.inMessage (by simp [hst]), h.inRange (by simp [hst]), h.sumStartLow hst⟩
    | awaitStartHigh => exact ⟨h.inMessage (by simp [hst]), h.inRange (by simp [hst]), h.sumStartHigh hst⟩
    | awaitEndLow =>
      exact ⟨h.inMessage (by simp [hst]), h.inRange (by simp [hst]), h.startWritten (by simp [hst]), h.sumEndLow hst⟩
    | awaitEndHigh =>
      exact ⟨h.inMessage (by simp [hst]), h.inRange (by simp [hst]), h.startWritten (by simp [hst]), h.sumEndHigh hst⟩
    | awaitChecksum => exact ⟨h.inMessage (by simp [hst]), h.checksumZero hst, h.checksum hst⟩
    | awaitEnd => exact h.afterGroups (by simp [hst])
    | terminal => exact h.afterGroups (by simp [hst])
    | unused n => simpa [hst, GfSt.used] using h.named
  · rintro ⟨hbuf, hclause, hev⟩
    cases hst : u.st <;> rw [hst] at hclause
    case unused => exact hclause.elim
    -- In each named state a field of `GfInv` is about another state, or is a part of this state's clause.
    all_goals constructor <;> simp_all [GfSt.used, GfClause, InRange, GfEventClause]

/-- The invariant of a GF with no event pending. -/
theorem gfInv_of_clause {c : Params} {u : GfState} (hbuf : u.rbuf.wf rbufCap = true) (hclause : GfClause c u u.st)
    (hev : u.evValid = false) : GfInv c u :=
  (gfInv_iff c u).2 ⟨hbuf, hclause, fun h => by simp [hev] at h⟩

/-- R32: when the last range of a group is checked, all the slots of the group are written. -/
theorem written_of_group_complete {c : Params} {u : GfState} (h : GfInv c u) (hst : u.st = .awaitChecksum)
    (hk : u.r.toNat ≤ u.k.toNat + 1) : u.rbuf.written (2 * u.r.toNat) := by
  by_cases hr : 1 ≤ u.r.toNat
  · obtain ⟨hkr, hwritten, -⟩ := h.checksum hst hr
    rwa [show 2 * u.r.toNat = 2 * u.k.toNat + 2 by omega]
  · rw [show 2 * u.r.toNat = 0 by omega]
    exact written_zero _

/-- R90 to R93: a checksum byte keeps the invariant. -/
theorem gfInv_checksum {c : Params} (hc : c.legal) {u : GfState} (b : Byte) (h : GfInv c u)
    (hst : u.st = .awaitChecksum) (hev : u.evValid = false) : GfInv c (gfTxn c u b).1 := by
  have hgrp : u.grp.toNat < c.groups := h.inMessage (by simp [hst])
  have hgrp' : (u.grp + 1).toNat = u.grp.toNat + 1 := by
    have := hc.2.2
    bv_omega
  rw [gfTxn_awaitChecksum c b hst]
  split
  case isFalse => exact gfInv_of_clause h.buffer rfl hev
  split
  case isTrue hmore =>
    obtain ⟨-, hwritten, -⟩ := h.checksum hst (by omega)
    have hk' : (u.k + 1).toNat = u.k.toNat + 1 := by bv_omega
    refine gfInv_of_clause h.buffer ⟨hgrp, ⟨?_, ?_, ?_⟩, rfl⟩ hev
    · show 1 ≤ u.r.toNat
      omega
    · show (u.k + 1).toNat < u.r.toNat
      omega
    · show u.rbuf.written (2 * (u.k + 1).toNat)
      rwa [hk']
  case isFalse hk =>
    have hwritten := written_of_group_complete h hst (Nat.not_lt.1 hk)
    dsimp only
    refine (gfInv_iff _ _).2 ⟨h.buffer, ?_, fun _ => ⟨?_, rfl, hgrp'.symm, hwritten⟩⟩
    · split
      case isTrue hnext => exact hgrp'.trans_lt hnext
      case isFalse hlast => exact hgrp'.trans (by omega)
    · rw [GfState.setSt_st]
      split <;> simp

/-- R84, R85: a range count byte establishes the clause of the state it leads to. -/
theorem gfInv_rangeCount {c : Params} {u : GfState} (b : Byte) (h : GfInv c u) (hst : u.st = .awaitRangeCount)
    (hev : u.evValid = false) : GfInv c (gfTxn c u b).1 := by
  have hgrp : u.grp.toNat < c.groups := h.inMessage (by simp [hst])
  rw [gfTxn_awaitRangeCount c b hst]
  refine gfInv_of_clause rfl ?_ hev
  split
  case isTrue hzero =>
    subst b
    exact ⟨hgrp, fun _ => ⟨rfl, rfl⟩, fun hr => absurd hr (by simp)⟩
  case isFalse hpos =>
    have hr : 1 ≤ b.toNat := by bv_omega
    exact ⟨hgrp, ⟨hr, hr, written_zero _⟩, rfl⟩

/-- A slot of a range k below R lies inside RBUF (10_state R22). -/
theorem slot_lt_rbufCap {u : GfState} (h : InRange u) : 2 * u.k.toNat + 1 < rbufCap := by
  obtain ⟨-, hk, -⟩ := h
  unfold rbufCap
  omega

/-- R87: a start index, once written, is summed by both its bytes. -/
theorem gfInv_startHigh {c : Params} {u : GfState} (b : Byte) (h : GfInv c u) (hst : u.st = .awaitStartHigh)
    (hev : u.evValid = false) : GfInv c (gfTxn c u b).1 := by
  have hrange : InRange u := h.inRange (by simp [hst])
  have hread : (u.rbuf.write rbufCap (2 * u.k.toNat) (pairHigh b u.lo)).read (2 * u.k.toNat) = some (pairHigh b u.lo) := by
    have := slot_lt_rbufCap hrange
    rw [Memory.read_write, if_pos ⟨rfl, by omega⟩]
  obtain ⟨hr, hk, hwritten⟩ := hrange
  rw [gfTxn_awaitStartHigh c b hst]
  refine gfInv_of_clause (Memory.wf_write _ _ _ _ h.buffer)
    ⟨h.inMessage (by simp [hst]), ⟨hr, hk, written_write _ hwritten⟩, ?_, ?_⟩ hev
  · simp [GfState.startSlot, hread]
  · simp [GfState.startSlot, hread, slotSum_pairHigh, h.sumStartHigh hst, BitVec.add_assoc]

/-- R89: an end index completes the range: both its slots are written and summed. -/
theorem gfInv_endHigh {c : Params} {u : GfState} (b : Byte) (h : GfInv c u) (hst : u.st = .awaitEndHigh)
    (hev : u.evValid = false) : GfInv c (gfTxn c u b).1 := by
  have hrange : InRange u := h.inRange (by simp [hst])
  have hcap := slot_lt_rbufCap hrange
  obtain ⟨hr, hk, hwritten⟩ := hrange
  have hstart : (u.rbuf.read (2 * u.k.toNat)).isSome = true := h.startWritten (by simp [hst])
  have hbefore : u.rbuf.written (2 * u.k.toNat + 1) := fun i hi => by
    obtain hlt | rfl := Nat.lt_succ_iff_lt_or_eq.1 hi
    · exact hwritten i hlt
    · exact hstart
  rw [gfTxn_awaitEndHigh c b hst]
  refine gfInv_of_clause (Memory.wf_write _ _ _ _ h.buffer)
    ⟨h.inMessage (by simp [hst]), fun hzero => ?_, fun _ => ⟨hk, written_write_succ _ hbefore hcap, ?_⟩⟩ hev
  · rw [show u.r = 0 from hzero] at hr
    exact absurd hr (by simp)
  · simp [GfState.endSlot, Memory.read_write, hcap, slotSum_pairHigh, h.sumEndHigh hst, BitVec.add_assoc]

/-- R31: every transaction of the GF keeps the invariant. -/
theorem gfInv_gfTxn {c : Params} (hc : c.legal) {u : GfState} (b : Byte) (h : GfInv c u) (hev : u.evValid = false) :
    GfInv c (gfTxn c u b).1 := by
  cases hst : u.st with
  | awaitStart =>
    have hgrp : u.grp = 0 := h.awaitStart hst
    rw [gfTxn_awaitStart c b hst]
    refine gfInv_of_clause h.buffer ?_ hev
    split
    · show u.grp.toNat < c.groups
      rw [hgrp]
      exact hc.2.1
    · exact hgrp
  | awaitRangeCount => exact gfInv_rangeCount b h hst hev
  | awaitStartLow =>
    rw [gfTxn_awaitStartLow c b hst]
    refine gfInv_of_clause h.buffer ⟨h.inMessage (by simp [hst]), h.inRange (by simp [hst]), ?_⟩ hev
    simp [h.sumStartLow hst]
  | awaitStartHigh => exact gfInv_startHigh b h hst hev
  | awaitEndLow =>
    rw [gfTxn_awaitEndLow c b hst]
    refine gfInv_of_clause h.buffer
      ⟨h.inMessage (by simp [hst]), h.inRange (by simp [hst]), h.startWritten (by simp [hst]), ?_⟩ hev
    simp [h.sumEndLow hst]
  | awaitEndHigh => exact gfInv_endHigh b h hst hev
  | awaitChecksum => exact gfInv_checksum hc b h hst hev
  | awaitEnd =>
    have hgrp : u.grp.toNat = c.groups := h.afterGroups (by simp [hst])
    rw [gfTxn_awaitEnd c b hst]
    refine gfInv_of_clause h.buffer ?_ hev
    split <;> exact hgrp
  | terminal => rwa [gfTxn_terminal c b hst]
  | unused n => simpa [hst, GfSt.used] using h.named

theorem gfInv_reset (c : Params) : GfInv c GfState.reset :=
  gfInv_of_clause rfl rfl rfl

/-- R103: an acknowledge keeps the invariant. -/
theorem gfInv_ack {c : Params} {u : GfState} (h : GfInv c u) : GfInv c u.ack := by
  obtain ⟨hbuf, hclause, -⟩ := (gfInv_iff c u).1 h
  refine gfInv_of_clause hbuf ?_ rfl
  rw [GfState.ack_st]
  cases hst : u.st <;> rw [hst] at hclause <;> exact hclause

/-- R31: every edge keeps the GF's invariant. -/
theorem gfInv_gfEdge {c : Params} (hc : c.legal) {u : GfState} (g : PortIn) (h : GfInv c u) : GfInv c (gfEdge c g u) := by
  unfold gfEdge
  split
  · exact gfInv_reset c
  split
  · exact gfInv_ack h
  split
  case isTrue hin => exact gfInv_gfTxn hc g.inData h (by simpa using (Bool.and_eq_true_iff.1 hin).2)
  case isFalse => rwa [u.recover_of_used h.named]

/-! ### The machine -/

/-- Settles O30: the reset values of R33 satisfy the clauses of AwaitStart in both units. -/
theorem invariantAtReset : Obligations.InvariantAtReset :=
  ⟨pfInv_reset params, gfInv_reset params⟩

/-- Settles O31: at an edge each unit moves by its own edge function, which keeps its invariant; a read changes neither. -/
theorem stepKeepsInvariant : Obligations.StepKeepsInvariant := by
  intro s t ⟨hpf, hgf⟩ hstep
  cases hf : fetch s with
  | edge p g =>
    rw [step_edge hf] at hstep
    obtain rfl := Host.Outcome.next.inj hstep
    exact ⟨pfInv_pfEdge params_legal p hpf, gfInv_gfEdge params_legal g hgf⟩
  | read r a =>
    obtain ⟨t', hread, hpf', hgf'⟩ := step_read hf
    rw [hread] at hstep
    obtain rfl := Host.Outcome.next.inj hstep
    exact ⟨hpf'.symm ▸ hpf, hgf'.symm ▸ hgf⟩

/-- Settles O32: the PF emits only in AwaitEnd and the GF only when a group's last range is checked, and there the invariant
has the whole payload written. -/
theorem eventPayloadIsWritten : Obligations.EventPayloadIsWritten := by
  intro c _
  constructor
  · intro u b e hinv _ hemit
    obtain ⟨hst, -, rfl⟩ := (pfTxn_event_iff c b e).1 hemit
    obtain ⟨-, -, hwritten⟩ := hinv.awaitEnd hst
    exact ⟨length_slice .., rfl, isSome_of_mem_slice hwritten⟩
  · intro u b e hinv _ hemit
    obtain ⟨hst, -, hk, rfl⟩ := (gfTxn_event_iff c b e).1 hemit
    exact ⟨length_slice .., rfl, rfl, isSome_of_mem_slice (written_of_group_complete hinv hst hk)⟩

end Sys2Proof.Proofs.Invariant
end

section
/-! PROOFS. The control states and registers: reset values, status codes, unused codes, and that an earlier message leaves no
trace in later ones (10_state R27 to R29, R33). -/

namespace Sys2Proof.Proofs.Registers

open Sys2Proof.Config Sys2Proof.Machine Sys2Proof.Proofs.Transactions Sys2Proof.Proofs.Edge

/-- Settles O26: `State.reset` is made of the two units' reset values. -/
theorem resetValues : Obligations.ResetValues := ⟨rfl, rfl⟩

/-! ### Status codes -/

/-- The PF control state a code stands for: the table of R27, and an unused code from 5 on. -/
def pfStOfCode (v : BitVec 3) : PfSt :=
  match v.toNat with
  | 0 => .awaitStart
  | 1 => .awaitCount
  | 2 => .awaitPacketByte
  | 3 => .awaitChecksum
  | 4 => .awaitEnd
  | n + 5 => .unused (Fin.ofNat 3 n)

/-- The GF control state a code stands for: the table of R27, and an unused code from 9 on. -/
def gfStOfCode (v : BitVec 4) : GfSt :=
  match v.toNat with
  | 0 => .awaitStart
  | 1 => .awaitRangeCount
  | 2 => .awaitStartLow
  | 3 => .awaitStartHigh
  | 4 => .awaitEndLow
  | 5 => .awaitEndHigh
  | 6 => .awaitChecksum
  | 7 => .awaitEnd
  | 8 => .terminal
  | n + 9 => .unused (Fin.ofNat 7 n)

/-- The code of a PF control state gives the state back. -/
theorem pfStOfCode_code : Function.LeftInverse pfStOfCode PfSt.code := by
  intro x
  cases x with
  | unused n => revert n; decide
  | _ => rfl

/-- The code of a GF control state gives the state back. -/
theorem gfStOfCode_code : Function.LeftInverse gfStOfCode GfSt.code := by
  intro x
  cases x with
  | unused n => revert n; decide
  | _ => rfl

/-- Settles O27: the codes are injective because a code gives its state back. -/
theorem statusCodes : Obligations.StatusCodes :=
  ⟨fun _ => ⟨rfl, rfl⟩, fun _ _ h => pfStOfCode_code.injective h, fun _ _ h => gfStOfCode_code.injective h, rfl, rfl⟩

/-! ### Unused codes -/

/-- R28: an edge that neither resets nor acknowledges takes a PF out of an unused code. -/
theorem pfEdge_of_unused (c : Params) {u : PfState} {p : PortIn} {n : Fin 3} (hst : u.st = .unused n)
    (hrst : p.rst = false) (hack : (u.evValid && p.evtReady) = false) :
    pfEdge c p u = u.setSt
      (if p.inValid && !u.evValid && p.inData = startByte then .awaitCount else .awaitStart) := by
  simp only [pfEdge, hrst, hack, Bool.false_eq_true, if_false]
  split
  case isTrue haccept => simp [pfTxn_unused c p.inData hst, haccept]
  case isFalse haccept => simp [pfRecover_of_unused hst, haccept]

/-- R28: an edge that neither resets nor acknowledges takes a GF out of an unused code and clears grp. -/
theorem gfEdge_of_unused (c : Params) {u : GfState} {g : PortIn} {n : Fin 7} (hst : u.st = .unused n)
    (hrst : g.rst = false) (hack : (u.evValid && g.evtReady) = false) :
    gfEdge c g u = { u with
      grp := 0
      st := if g.inValid && !u.evValid && g.inData = startByte then .awaitRangeCount else .awaitStart } := by
  simp only [gfEdge, hrst, hack, Bool.false_eq_true, if_false]
  split
  case isTrue haccept => simp [gfTxn_unused c g.inData hst, gfRecover_of_unused hst, GfState.setSt, haccept]
  case isFalse haccept => simp [gfRecover_of_unused hst, haccept]

/-- Settles O25: the edge moves each unit by its edge function, which takes it out of an unused code. -/
theorem unusedCodeActsAsAwaitStart : Obligations.UnusedCodeActsAsAwaitStart := by
  intro s p g rest hhost
  have hfetch : fetch s = .edge p g := by simp [fetch, hhost]
  exact ⟨_, step_edge hfetch, fun _ hst hrst hack => pfEdge_of_unused params hst hrst hack,
    fun _ hst hrst hack => gfEdge_of_unused params hst hrst hack⟩

/-! ### Earlier messages (10_state R29) -/

/-- Two PFs that differ only in what no later byte can show: the event registers, and outside a message every register and
the buffer, which the next count byte loads anew. -/
structure PfAgree (u v : PfState) : Prop where
  st : u.st = v.st
  datapath : u.st ∉ [PfSt.awaitStart, .awaitCount] →
    u.n = v.n ∧ u.rem = v.rem ∧ u.cur = v.cur ∧ u.acc = v.acc ∧ u.pbuf = v.pbuf

/-- Two GFs that differ only in what no later byte can show: the event registers, the low byte where none is latched, and
every register and the buffer outside a group. Only grp lives on from group to group. -/
structure GfAgree (u v : GfState) : Prop where
  st : u.st = v.st
  grp : u.grp = v.grp
  datapath : u.st ∈ [GfSt.awaitStartLow, .awaitStartHigh, .awaitEndLow, .awaitEndHigh, .awaitChecksum] →
    u.r = v.r ∧ u.k = v.k ∧ u.acc = v.acc ∧ u.rbuf = v.rbuf
  latch : u.st ∈ [GfSt.awaitStartHigh, .awaitEndHigh] → u.lo = v.lo

theorem pfAgree_ack {u v : PfState} (h : PfAgree u v) : PfAgree u.ack v.ack := ⟨h.st, h.datapath⟩

theorem gfAgree_ack {u v : GfState} (h : GfAgree u v) : GfAgree u.ack v.ack := ⟨h.st, h.grp, h.datapath, h.latch⟩

/-- A byte has the same event in PFs that agree, and they agree after it. -/
theorem pfTxn_agree (c : Params) {u v : PfState} (b : Byte) (h : PfAgree u v) :
    (pfTxn c u b).2 = (pfTxn c v b).2 ∧ PfAgree (pfTxn c u b).1 (pfTxn c v b).1 := by
  obtain ⟨hst, hdata⟩ := h
  cases hu : u.st <;> have hv := hst.symm.trans hu <;> simp only [hu] at hdata
  case awaitStart =>
    rw [pfTxn_awaitStart c b hu, pfTxn_awaitStart c b hv]
    refine ⟨rfl, rfl, ?_⟩
    split <;> simp
  case unused n =>
    rw [pfTxn_unused c b hu, pfTxn_unused c b hv]
    refine ⟨rfl, rfl, ?_⟩
    split <;> simp
  case awaitCount =>
    rw [pfTxn_awaitCount c b hu, pfTxn_awaitCount c b hv]
    exact ⟨rfl, rfl, fun _ => ⟨rfl, rfl, rfl, rfl, rfl⟩⟩
  all_goals obtain ⟨hn, hrem, hcur, hacc, hbuf⟩ := hdata (by simp)
  case awaitPacketByte =>
    rw [pfTxn_awaitPacketByte c b hu, pfTxn_awaitPacketByte c b hv]
    refine ⟨rfl, ?_, fun _ => ?_⟩ <;> simp [hn, hrem, hcur, hacc, hbuf]
  case awaitChecksum =>
    rw [pfTxn_awaitChecksum c b hu, pfTxn_awaitChecksum c b hv, hacc, hrem]
    refine ⟨rfl, ?_⟩
    dsimp only
    split
    · split
      · exact ⟨rfl, fun _ => ⟨hn, congrArg (· - 1) hrem, hcur, rfl, hbuf⟩⟩
      · exact ⟨rfl, fun _ => ⟨hn, rfl, hcur, rfl, hbuf⟩⟩
    · exact ⟨rfl, by simp⟩
  case awaitEnd =>
    rw [pfTxn_awaitEnd c b hu, pfTxn_awaitEnd c b hv, hn, hbuf]
    split
    · exact ⟨rfl, rfl, by simp⟩
    · exact ⟨rfl, hst, fun _ => ⟨hn, hrem, hcur, hacc, hbuf⟩⟩

/-- A low byte keeps GFs in agreement, and latches the same byte in both. -/
theorem gfAgree_takeLow {u v : GfState} (b : Byte) (x : GfSt) (hgrp : u.grp = v.grp)
    (hdata : u.r = v.r ∧ u.k = v.k ∧ u.acc = v.acc ∧ u.rbuf = v.rbuf) :
    GfAgree ((u.takeLow b).setSt x) ((v.takeLow b).setSt x) := by
  obtain ⟨hr, hk, hacc, hbuf⟩ := hdata
  exact ⟨rfl, hgrp, fun _ => ⟨hr, hk, congrArg (· + b) hacc, hbuf⟩, fun _ => rfl⟩

/-- A high byte keeps GFs in agreement if they have latched the same low byte. -/
theorem gfAgree_takeHigh {u v : GfState} (i : Nat) (b : Byte) (x : GfSt) (hgrp : u.grp = v.grp) (hlo : u.lo = v.lo)
    (hdata : u.r = v.r ∧ u.k = v.k ∧ u.acc = v.acc ∧ u.rbuf = v.rbuf) :
    GfAgree ((u.takeHigh i b).setSt x) ((v.takeHigh i b).setSt x) := by
  obtain ⟨hr, hk, hacc, hbuf⟩ := hdata
  exact ⟨rfl, hgrp, fun _ => ⟨hr, hk, congrArg (· + b) hacc, by simp [hlo, hbuf]⟩, fun _ => hlo⟩

/-- A byte has the same event in GFs that agree, and they agree after it. -/
theorem gfTxn_agree (c : Params) {u v : GfState} (b : Byte) (h : GfAgree u v) :
    (gfTxn c u b).2 = (gfTxn c v b).2 ∧ GfAgree (gfTxn c u b).1 (gfTxn c v b).1 := by
  obtain ⟨hst, hgrp, hdata, hlo⟩ := h
  cases hu : u.st <;> have hv := hst.symm.trans hu <;> simp only [hu] at hdata hlo
  case awaitStart =>
    rw [gfTxn_awaitStart c b hu, gfTxn_awaitStart c b hv]
    refine ⟨rfl, rfl, hgrp, ?_, ?_⟩ <;> split <;> simp
  case unused n =>
    rw [gfTxn_unused c b hu, gfTxn_unused c b hv, gfRecover_of_unused hu, gfRecover_of_unused hv]
    refine ⟨rfl, rfl, rfl, ?_, ?_⟩ <;> split <;> simp
  case awaitRangeCount =>
    rw [gfTxn_awaitRangeCount c b hu, gfTxn_awaitRangeCount c b hv]
    refine ⟨rfl, rfl, hgrp, fun _ => ⟨rfl, rfl, rfl, rfl⟩, ?_⟩
    split <;> simp
  case awaitEnd =>
    rw [gfTxn_awaitEnd c b hu, gfTxn_awaitEnd c b hv]
    refine ⟨rfl, rfl, hgrp, ?_, ?_⟩ <;> split <;> simp
  case terminal =>
    rw [gfTxn_terminal c b hu, gfTxn_terminal c b hv]
    exact ⟨rfl, hst, hgrp, by simp [hu], by simp [hu]⟩
  all_goals replace hdata := hdata (by simp)
  case awaitStartLow =>
    rw [gfTxn_awaitStartLow c b hu, gfTxn_awaitStartLow c b hv]
    exact ⟨rfl, gfAgree_takeLow b _ hgrp hdata⟩
  case awaitEndLow =>
    rw [gfTxn_awaitEndLow c b hu, gfTxn_awaitEndLow c b hv]
    exact ⟨rfl, gfAgree_takeLow b _ hgrp hdata⟩
  case awaitStartHigh =>
    have hslot : u.startSlot = v.startSlot := by simp only [GfState.startSlot, hdata]
    rw [gfTxn_awaitStartHigh c b hu, gfTxn_awaitStartHigh c b hv, hslot]
    exact ⟨rfl, gfAgree_takeHigh _ b _ hgrp (hlo (by simp)) hdata⟩
  case awaitEndHigh =>
    have hslot : u.endSlot = v.endSlot := by simp only [GfState.endSlot, hdata]
    rw [gfTxn_awaitEndHigh c b hu, gfTxn_awaitEndHigh c b hv, hslot]
    exact ⟨rfl, gfAgree_takeHigh _ b _ hgrp (hlo (by simp)) hdata⟩
  case awaitChecksum =>
    obtain ⟨hr, hk, hacc, hbuf⟩ := hdata
    rw [gfTxn_awaitChecksum c b hu, gfTxn_awaitChecksum c b hv, hacc, hr, hk, hgrp, hbuf]
    split
    · split
      · exact ⟨rfl, rfl, hgrp, fun _ => ⟨hr, congrArg (· + 1) hk, hr, hbuf⟩, by simp⟩
      · refine ⟨rfl, rfl, congrArg (· + 1) hgrp, ?_, ?_⟩ <;> dsimp only <;> split <;> simp
    · exact ⟨rfl, rfl, rfl, by simp, by simp⟩

/-- A byte stream has the same events in PFs that agree, and leads to the same control state. -/
theorem pfTxns_agree (c : Params) (bs : List Byte) {u v : PfState} (h : PfAgree u v) :
    (pfTxns c u bs).2 = (pfTxns c v bs).2 ∧ (pfTxns c u bs).1.st = (pfTxns c v bs).1.st := by
  induction bs generalizing u v with
  | nil => exact ⟨rfl, h.st⟩
  | cons b bs ih =>
    obtain ⟨hevent, hagree⟩ := pfTxn_agree c b (pfAgree_ack h)
    obtain ⟨hevents, hst⟩ := ih hagree
    simp only [pfTxns, hevent, hevents, hst, and_self]

/-- A byte stream has the same events in GFs that agree, and leads to the same control state. -/
theorem gfTxns_agree (c : Params) (bs : List Byte) {u v : GfState} (h : GfAgree u v) :
    (gfTxns c u bs).2 = (gfTxns c v bs).2 ∧ (gfTxns c u bs).1.st = (gfTxns c v bs).1.st := by
  induction bs generalizing u v with
  | nil => exact ⟨rfl, h.st⟩
  | cons b bs ih =>
    obtain ⟨hevent, hagree⟩ := gfTxn_agree c b (gfAgree_ack h)
    obtain ⟨hevents, hst⟩ := ih hagree
    simp only [gfTxns, hevent, hevents, hst, and_self]

/-- Settles O39: in AwaitStart (with no group completed) a unit agrees with the reset unit. -/
theorem earlierContentsUnobservable : Obligations.EarlierContentsUnobservable := by
  intro c bs
  constructor
  · intro u hst
    exact pfTxns_agree c bs ⟨hst, fun h => absurd h (by simp [hst])⟩
  · intro u hst hgrp
    exact gfTxns_agree c bs ⟨hst, hgrp, fun h => absurd h (by simp [hst]), fun h => absurd h (by simp [hst])⟩

end Sys2Proof.Proofs.Registers
end

section
/-! PROOFS. The writers of each register, flag, control state and buffer (10_state R16 to R23, 43_control R99, R103). -/

namespace Sys2Proof.Proofs.Writers

open Sys2Proof.Config Sys2Proof.Machine

/-- An instruction leaves the unit it does not belong to as it is (20_memory R47). -/
theorem exec_other_unit {i : Instr} {s t : State} (h : exec i s = .next t) :
    (unitOf i = .gf → t.pf = s.pf) ∧ (unitOf i = .pf → t.gf = s.gf) := by
  cases i with
  | reset r => cases r <;> obtain rfl := Host.Outcome.next.inj h <;> simp [unitOf, Instr.byte?]
  | evtAck r => cases r <;> obtain rfl := Host.Outcome.next.inj h <;> simp [unitOf, Instr.byte?]
  | rd r a => cases r <;> obtain rfl := Host.Outcome.next.inj h <;> simp
  | _ => obtain rfl := Host.Outcome.next.inj h; simp [unitOf, Instr.byte?]

/-- What it takes for instruction `i` to turn the PF `u` into `v`: whatever differs has `i` among its writers. -/
structure PfWritten (i : Instr) (u v : PfState) : Prop where
  st : v.st ≠ u.st → i = .reset .pf ∨ ∃ b, i.byte? = some (.pf, b)
  n : v.n ≠ u.n → i = .reset .pf ∨ i = .pfCountZero ∨ ∃ b, i = .pfCount b
  rem : v.rem ≠ u.rem → i = .reset .pf ∨ i = .pfCountZero ∨ ∃ b, i = .pfCount b ∨ i = .pfChkNext b ∨ i = .pfChkLast b
  cur : v.cur ≠ u.cur → i = .reset .pf ∨ i = .pfCountZero ∨
    ∃ b, i = .pfCount b ∨ i = .pfPayload b ∨ i = .pfPayloadLast b
  acc : v.acc ≠ u.acc → i = .reset .pf ∨ i = .pfCountZero ∨
    ∃ b, i = .pfCount b ∨ i = .pfPayload b ∨ i = .pfPayloadLast b ∨ i = .pfChkNext b ∨ i = .pfChkLast b
  pbuf : (∃ a x, v.pbuf.read a = some x ∧ u.pbuf.read a ≠ some x) → ∃ b, i = .pfPayload b ∨ i = .pfPayloadLast b
  evSet : u.evValid = false → v.evValid = true → i = .pfEnd
  evCleared : u.evValid = true → v.evValid = false → i = .reset .pf ∨ i = .evtAck .pf
  evN : v.evN ≠ u.evN → i = .reset .pf ∨ i = .pfEnd

/-- What it takes for instruction `i` to turn the GF `u` into `v`: whatever differs has `i` among its writers. -/
structure GfWritten (i : Instr) (u v : GfState) : Prop where
  st : v.st ≠ u.st → i = .reset .gf ∨ ∃ b, i.byte? = some (.gf, b)
  r : v.r ≠ u.r → i = .reset .gf ∨ i = .gfRcountZero ∨ ∃ b, i = .gfRcount b
  k : v.k ≠ u.k → i = .reset .gf ∨ i = .gfRcountZero ∨
    ∃ b, i = .gfRcount b ∨ i = .gfChkRangeNext b ∨ i = .gfChkGroupNext b ∨ i = .gfChkGroupLast b
  lo : v.lo ≠ u.lo → i = .reset .gf ∨ ∃ b, i = .gfStartLo b ∨ i = .gfEndLo b
  acc : v.acc ≠ u.acc → i = .reset .gf ∨ i = .gfRcountZero ∨
    ∃ b, i = .gfRcount b ∨ i = .gfStartLo b ∨ i = .gfStartHi b ∨ i = .gfEndLo b ∨ i = .gfEndHi b ∨
      i = .gfChkRangeNext b
  grp : v.grp ≠ u.grp → i = .reset .gf ∨ ∃ b, i = .gfChkGroupNext b ∨ i = .gfChkGroupLast b ∨ i = .gfChkFail b
  rbuf : (∃ a x, v.rbuf.read a = some x ∧ u.rbuf.read a ≠ some x) → ∃ b, i = .gfStartHi b ∨ i = .gfEndHi b
  evSet : u.evValid = false → v.evValid = true → ∃ b, i = .gfChkGroupNext b ∨ i = .gfChkGroupLast b
  evCleared : u.evValid = true → v.evValid = false → i = .reset .gf ∨ i = .evtAck .gf
  evRegs : v.evR ≠ u.evR ∨ v.evGi ≠ u.evGi → i = .reset .gf ∨ ∃ b, i = .gfChkGroupNext b ∨ i = .gfChkGroupLast b

/-- A PF that did not change needs no writer. -/
theorem pfWritten_refl (i : Instr) (u : PfState) : PfWritten i u u := by
  constructor <;> simp_all

/-- A GF that did not change needs no writer. -/
theorem gfWritten_refl (i : Instr) (u : GfState) : GfWritten i u u := by
  constructor <;> simp_all

/-- Every instruction of the PF is among the listed writers of all it changes in the PF. -/
theorem pfWritten_of_exec {i : Instr} {s t : State} (h : exec i s = .next t) : PfWritten i s.pf t.pf := by
  cases hunit : unitOf i with
  | gf =>
    rw [(exec_other_unit h).1 hunit]
    exact pfWritten_refl i s.pf
  | pf =>
    cases i with
    | pfNoise b | pfEndNoise b =>
      obtain rfl := Host.Outcome.next.inj h
      exact pfWritten_refl _ s.pf
    | rd r a =>
      obtain rfl : r = .pf := hunit
      obtain rfl := Host.Outcome.next.inj h
      exact pfWritten_refl _ s.pf
    | reset r =>
      obtain rfl : r = .pf := hunit
      obtain rfl := Host.Outcome.next.inj h
      constructor <;> simp [PfState.reset]
    | evtAck r =>
      obtain rfl : r = .pf := hunit
      obtain rfl := Host.Outcome.next.inj h
      constructor <;> simp
    -- A field the operation writes has the instruction in its list; the field laws give back every other one.
    | pfStart | pfCountZero | pfEnd =>
      obtain rfl := Host.Outcome.next.inj h
      constructor <;> simp_all [Instr.byte?]
    | pfCount b | pfPayload b | pfPayloadLast b | pfChkFail b | pfChkNext b | pfChkLast b =>
      obtain rfl := Host.Outcome.next.inj h
      constructor <;> simp_all [Instr.byte?]
    | _ => nomatch hunit

/-- Every instruction of the GF is among the listed writers of all it changes in the GF. -/
theorem gfWritten_of_exec {i : Instr} {s t : State} (h : exec i s = .next t) : GfWritten i s.gf t.gf := by
  cases hunit : unitOf i with
  | pf =>
    rw [(exec_other_unit h).2 hunit]
    exact gfWritten_refl i s.gf
  | gf =>
    cases i with
    | gfNoise b | gfEndNoise b | gfTerm b =>
      obtain rfl := Host.Outcome.next.inj h
      exact gfWritten_refl _ s.gf
    | rd r a =>
      obtain rfl : r = .gf := hunit
      obtain rfl := Host.Outcome.next.inj h
      exact gfWritten_refl _ s.gf
    | reset r =>
      obtain rfl : r = .gf := hunit
      obtain rfl := Host.Outcome.next.inj h
      constructor <;> simp [GfState.reset]
    | evtAck r =>
      obtain rfl : r = .gf := hunit
      obtain rfl := Host.Outcome.next.inj h
      constructor <;> simp
    -- As for the PF.
    | gfStart | gfRcountZero | gfEnd =>
      obtain rfl := Host.Outcome.next.inj h
      constructor <;> simp_all [Instr.byte?]
    | gfRcount b | gfStartLo b | gfStartHi b | gfEndLo b | gfEndHi b | gfChkFail b | gfChkRangeNext b
    | gfChkGroupNext b | gfChkGroupLast b =>
      obtain rfl := Host.Outcome.next.inj h
      constructor <;> simp_all [Instr.byte?]
    | _ => nomatch hunit

/-- Settles O35: the clauses are the fields of `PfWritten` and `GfWritten`. -/
theorem registersHaveListedWriters : Obligations.RegistersHaveListedWriters := by
  intro i s t h
  have pf := pfWritten_of_exec h
  have gf := gfWritten_of_exec h
  exact ⟨pf.st, pf.n, pf.rem, pf.cur, pf.acc, pf.pbuf, pf.evSet, pf.evCleared, pf.evN,
    gf.st, gf.r, gf.k, gf.lo, gf.acc, gf.grp, gf.rbuf, gf.evSet, gf.evCleared, gf.evRegs⟩

end Sys2Proof.Proofs.Writers
end

section
/-! PROOFS. The memory rules of 20_memory: the units share no state (R47), a pending payload is readable (R48), and a byte
is stored in one element and nowhere else (R43). -/

namespace Sys2Proof.Proofs.MemoryRules

open Sys2Proof.Config Sys2Proof.Machine Sys2Proof.Proofs.Edge

/-! ### The units share no state (R47) -/

/-- What a step does to the units, whatever the host action is: an edge moves each by its own edge function, and a read
changes neither. -/
theorem step_units {s t : State} (h : step s = .next t) :
    t.pf = (if (fetch s).isEdge then pfEdge params (fetch s).pfIn s.pf else s.pf) ∧
    t.gf = (if (fetch s).isEdge then gfEdge params (fetch s).gfIn s.gf else s.gf) := by
  cases hf : fetch s with
  | edge p g =>
    rw [step_edge hf] at h
    obtain rfl := Host.Outcome.next.inj h
    exact ⟨rfl, rfl⟩
  | read r a =>
    obtain ⟨t', hread, hpf, hgf⟩ := step_read hf
    rw [hread] at h
    obtain rfl := Host.Outcome.next.inj h
    exact ⟨hpf, hgf⟩

/-- Settles O24: by `step_units` a unit's next state is a function of its own state and inputs and of the kind of action. -/
theorem unitsAreIndependent : Obligations.UnitsAreIndependent := by
  intro s₁ s₂ t₁ t₂ h₁ h₂ hkind
  obtain ⟨hpf₁, hgf₁⟩ := step_units h₁
  obtain ⟨hpf₂, hgf₂⟩ := step_units h₂
  constructor
  · intro hunit hin
    rw [hpf₁, hpf₂, hkind, hunit, hin]
  · intro hunit hin
    rw [hgf₁, hgf₂, hkind, hunit, hin]

/-! ### A pending payload is readable (R48) -/

/-- R104: the PF's read port shows a payload element that holds a value. -/
theorem exec_rd_pf {s : State} {a : Nat} {v : Byte} (hev : s.pf.evValid = true)
    (ha : a < s.pf.evN.toNat * params.bpp) (hv : s.pf.pbuf.read a = some v) :
    exec (.rd .pf a) s = .next { s with pfRd := v } := by
  have hdata : s.pfRdData a = v := by simp [State.pfRdData, PfState.rdData?, PfState.payloadLen, hev, ha, hv]
  rw [← hdata]
  rfl

/-- R104: the GF's read port shows a payload slot that holds a value. -/
theorem exec_rd_gf {s : State} {a : Nat} {v : Slot} (hev : s.gf.evValid = true)
    (ha : a < 2 * s.gf.evR.toNat) (hv : s.gf.rbuf.read a = some v) :
    exec (.rd .gf a) s = .next { s with gfRd := v } := by
  have hdata : s.gfRdData a = v := by simp [State.gfRdData, GfState.rdData?, GfState.payloadLen, hev, ha, hv]
  rw [← hdata]
  rfl

/-- Settles O33: the invariant has the whole payload of a pending event written, so the read port shows its elements. -/
theorem pendingPayloadIsReadable : Obligations.PendingPayloadIsReadable := by
  rintro s a ⟨hpf, hgf⟩
  constructor
  · intro hev ha
    obtain ⟨-, hcount, hwritten⟩ := hpf.event hev
    obtain ⟨v, hv⟩ := Option.isSome_iff_exists.1 (hwritten a (hcount ▸ ha))
    exact ⟨v, hv, exec_rd_pf hev ha hv⟩
  · intro hev ha
    obtain ⟨-, hcount, -, hwritten⟩ := hgf.event hev
    obtain ⟨v, hv⟩ := Option.isSome_iff_exists.1 (hwritten a (hcount ▸ ha))
    exact ⟨v, hv, exec_rd_gf hev ha hv⟩

/-! ### An offered byte is the one thing an edge decodes (43_control R100) -/

theorem decode_offer_pf (c : Params) {s : State} (b : Byte) (hev : s.pf.evValid = false) :
    decode c s (offer .pf b) = [decodePfByte c s.pf b] := by
  simp [decode, offer, edgeFor, decodePf, byteIn, PfState.inReady, hev]

theorem decode_offer_gf (c : Params) {s : State} (b : Byte) (hev : s.gf.evValid = false) :
    decode c s (offer .gf b) = [decodeGfByte c s.gf b] := by
  simp [decode, offer, edgeFor, decodeGf, byteIn, GfState.inReady, hev]

/-! ### A payload byte goes to the cursor and nowhere else (41_packet_framer R73, R74) -/

/-- R73: PF.PAYLOAD leaves the control state, which is AwaitPacketByte. -/
theorem exec_pfPayload {s : State} (b : Byte) (hst : s.pf.st = .awaitPacketByte) :
    exec (.pfPayload b) s = .next (s.setPf ((s.pf.storePayload params b).setSt .awaitPacketByte)) := by
  rw [← hst]
  rfl

/-- With the cursor inside PBUF, a payload byte is stored with the whole frame, whatever control state follows. -/
theorem payloadStored_storePayload {s : State} (b : Byte) (x : PfSt) (hcur : s.pf.cur < pbufCap params) :
    PayloadStored b s (s.setPf ((s.pf.storePayload params b).setSt x)) where
  stored := by simp [Memory.read_write, hcur]
  others a ha := by simp [Memory.read_write, ha]
  cursor := curNext_eq params s.pf.cur params_legal.1 hcur
  checksum := rfl
  counts := ⟨rfl, rfl⟩
  event := ⟨rfl, rfl⟩
  rest := ⟨rfl, rfl, rfl, rfl, rfl⟩

/-- With the cursor beyond PBUF, a payload byte writes no element (20_memory R43). -/
theorem storePayload_pbuf_of_le {c : Params} {u : PfState} (b : Byte) (hcur : pbufCap c ≤ u.cur) :
    (u.storePayload c b).pbuf = u.pbuf :=
  Memory.write_of_le u.pbuf b hcur

/-- Settles O4: the cursor's place in its packet selects the row, and either row stores the byte at the cursor. -/
theorem pfPayloadStores : Obligations.PfPayloadStores := by
  intro c s b hst hev
  have hdecode : decodePfByte c s.pf b = if (s.pf.cur + 1) % c.bpp = 0 then .pfPayloadLast b else .pfPayload b := by
    simp only [decodePfByte, hst]
  rw [decode_offer_pf c b hev, hdecode]
  refine ⟨fun hmid => by rw [if_neg hmid], fun hlast => by rw [if_pos hlast], fun hin => ?_, fun hout => ?_⟩
  · exact ⟨⟨_, exec_pfPayload b hst, rfl, payloadStored_storePayload b _ hin⟩,
      ⟨_, rfl, rfl, payloadStored_storePayload b .awaitChecksum hin⟩⟩
  · exact ⟨⟨_, exec_pfPayload b hst, rfl, storePayload_pbuf_of_le b hout, rfl⟩,
      ⟨_, rfl, rfl, storePayload_pbuf_of_le b hout, rfl⟩⟩

/-! ### A high byte completes one slot and no other (42_group_framer R87, R89) -/

/-- A high byte for a slot inside RBUF is stored with the whole frame, whatever control state follows. -/
theorem slotStored_takeHigh {s : State} {slot : Nat} (b : Byte) (x : GfSt) (hslot : slot < rbufCap) :
    SlotStored slot b s (s.setGf ((s.gf.takeHigh slot b).setSt x)) where
  stored := by simp [Memory.read_write, hslot, pairHigh_eq_append]
  others a ha := by simp [Memory.read_write, ha]
  checksum := rfl
  counts := ⟨rfl, rfl, rfl, rfl⟩
  event := ⟨rfl, rfl, rfl⟩
  rest := ⟨rfl, rfl, rfl, rfl, rfl⟩

/-- A high byte for a slot beyond RBUF writes none (20_memory R43). -/
theorem takeHigh_rbuf_of_le {u : GfState} {slot : Nat} (b : Byte) (hslot : rbufCap ≤ slot) :
    (u.takeHigh slot b).rbuf = u.rbuf :=
  Memory.write_of_le u.rbuf _ hslot

/-- Slot 2k or 2k + 1 of range k lies inside RBUF exactly when k is below 255 (10_state R22). -/
theorem rangeSlot_lt_rbufCap_iff {k half : Nat} (hhalf : half ≤ 1) : 2 * k + half < rbufCap ↔ k < 255 := by
  unfold rbufCap
  omega

/-- A high byte of range k: stored with its frame where range k lies inside RBUF, and in no slot for k = 255. -/
theorem takeHigh_stores {s : State} {half : Nat} (b : Byte) (x : GfSt) (hhalf : half ≤ 1) :
    (s.gf.k.toNat < 255 →
      SlotStored (2 * s.gf.k.toNat + half) b s (s.setGf ((s.gf.takeHigh (2 * s.gf.k.toNat + half) b).setSt x))) ∧
    (s.gf.k.toNat = 255 → (s.gf.takeHigh (2 * s.gf.k.toNat + half) b).rbuf = s.gf.rbuf) := by
  constructor
  · intro hk
    exact slotStored_takeHigh b x ((rangeSlot_lt_rbufCap_iff hhalf).2 hk)
  · intro hk
    refine takeHigh_rbuf_of_le b (Nat.not_lt.1 fun hin => ?_)
    have := (rangeSlot_lt_rbufCap_iff hhalf).1 hin
    omega

/-- Settles O11: START_HI is the case of half 0 of range k and END_HI that of half 1. -/
theorem gfHighByteStores : Obligations.GfHighByteStores := by
  intro c s b hev
  rw [decode_offer_gf c b hev]
  constructor
  · intro hst
    obtain ⟨hin, hout⟩ := takeHigh_stores (s := s) b .awaitEndLow (Nat.zero_le 1)
    exact ⟨by simp only [decodeGfByte, hst], _, rfl, rfl, hin, fun hk => ⟨hout hk, rfl⟩⟩
  · intro hst
    obtain ⟨hin, hout⟩ := takeHigh_stores (s := s) b .awaitChecksum le_rfl
    exact ⟨by simp only [decodeGfByte, hst], _, rfl, rfl, hin, fun hk => ⟨hout hk, rfl⟩⟩

end Sys2Proof.Proofs.MemoryRules
end

section
/-! PROOFS. The transition map of 30_encoding R57: the row that applies is the row that is decoded, each byte has exactly
one (R58), and no step stops (60_exceptions R107). -/

namespace Sys2Proof.Proofs.Encoding

open Sys2Proof.Config Sys2Proof.Machine Sys2Proof.Proofs.Edge Sys2Proof.Proofs.MemoryRules

/-! ### The rows of R57 -/

theorem pfRow_iff (s : State) (st : PfSt) (cond : Bool) :
    pfRow s st cond = true ↔ s.pf.evValid = false ∧ s.pf.st.effective = st ∧ cond = true := by
  simp [pfRow, and_assoc]

theorem gfRow_iff (s : State) (st : GfSt) (cond : Bool) :
    gfRow s st cond = true ↔ s.gf.evValid = false ∧ s.gf.st.effective = st ∧ cond = true := by
  simp [gfRow, and_assoc]

theorem pfEffective_of_used {x : PfSt} (h : x.used = true) : x.effective = x := by
  cases x with
  | unused n => nomatch h
  | _ => rfl

theorem gfEffective_of_used {x : GfSt} (h : x.used = true) : x.effective = x := by
  cases x with
  | unused n => nomatch h
  | _ => rfl

/-- The PF selects by its effective control state (10_state R28). -/
theorem decodePfByte_effective (c : Params) (u : PfState) (b : Byte) :
    decodePfByte c (u.setSt u.st.effective) b = decodePfByte c u b := by
  obtain h | ⟨n, h⟩ := pfSt_used_or_unused u.st
  · rw [pfEffective_of_used h]; rfl
  · simp only [decodePfByte, h, PfSt.effective, PfState.setSt_st]

/-- The GF selects by its effective control state (10_state R28). -/
theorem decodeGfByte_effective (c : Params) (u : GfState) (b : Byte) :
    decodeGfByte c (u.setSt u.st.effective) b = decodeGfByte c u b := by
  obtain h | ⟨n, h⟩ := gfSt_used_or_unused u.st
  · rw [gfEffective_of_used h]; rfl
  · simp only [decodeGfByte, h, GfSt.effective, GfState.setSt_st]

/-- Where a row of the PF applies, an offered byte is decoded as in the row's named state, under the row's condition. -/
theorem decode_offer_of_pfRow (c : Params) {s : State} {st : PfSt} {cond : Bool} (b : Byte) (h : pfRow s st cond = true) :
    decode c s (offer .pf b) = [decodePfByte c (s.pf.setSt st) b] ∧ cond = true := by
  obtain ⟨hev, hst, hcond⟩ := (pfRow_iff s st cond).1 h
  rw [decode_offer_pf c b hev, ← decodePfByte_effective, hst]
  exact ⟨rfl, hcond⟩

/-- Where a row of the GF applies, an offered byte is decoded as in the row's named state, under the row's condition. -/
theorem decode_offer_of_gfRow (c : Params) {s : State} {st : GfSt} {cond : Bool} (b : Byte) (h : gfRow s st cond = true) :
    decode c s (offer .gf b) = [decodeGfByte c (s.gf.setSt st) b] ∧ cond = true := by
  obtain ⟨hev, hst, hcond⟩ := (gfRow_iff s st cond).1 h
  rw [decode_offer_gf c b hev, ← decodeGfByte_effective, hst]
  exact ⟨rfl, hcond⟩

/-- R57: the instruction whose row applies is what its byte decodes to. Row by row, the condition of the row decides the
decoder's tests in the row's state. -/
theorem decode_offer_of_selected {c : Params} {s : State} {i : Instr} {u : UnitId} {b : Byte}
    (hbyte : i.byte? = some (u, b)) (hsel : i.selected c s = true) : decode c s (offer u b) = [i] := by
  cases i <;> cases hbyte
  case pfStart | pfCountZero | pfEnd =>
    obtain ⟨hd, -⟩ := decode_offer_of_pfRow c _ hsel
    exact hd
  case pfNoise | pfCount | pfPayload | pfPayloadLast | pfChkFail | pfChkNext | pfChkLast | pfEndNoise =>
    obtain ⟨hd, hcond⟩ := decode_offer_of_pfRow c b hsel
    simp_all [decodePfByte]
  case gfStart | gfRcountZero | gfEnd | gfStartLo | gfStartHi | gfEndLo | gfEndHi | gfTerm =>
    obtain ⟨hd, -⟩ := decode_offer_of_gfRow c _ hsel
    exact hd
  case gfNoise | gfRcount | gfChkFail | gfChkRangeNext | gfEndNoise =>
    obtain ⟨hd, hcond⟩ := decode_offer_of_gfRow c b hsel
    simp_all [decodeGfByte]
  case gfChkGroupNext =>
    obtain ⟨hd, hcond⟩ := decode_offer_of_gfRow c b hsel
    obtain ⟨hacc, hlast, hgroup⟩ := of_decide_eq_true hcond
    simpa [decodeGfByte, hacc, Nat.not_lt.2 hlast, hgroup] using hd
  case gfChkGroupLast =>
    obtain ⟨hd, hcond⟩ := decode_offer_of_gfRow c b hsel
    obtain ⟨hacc, hlast, hgroup⟩ := of_decide_eq_true hcond
    simpa [decodeGfByte, hacc, Nat.not_lt.2 hlast, Nat.not_lt.2 hgroup] using hd

/-- R58: the transition the PF decodes from a byte consumes that byte, and its row applies. -/
theorem decodePfByte_selected (c : Params) {s : State} (b : Byte) (hev : s.pf.evValid = false) :
    (decodePfByte c s.pf b).byte? = some (.pf, b) ∧ (decodePfByte c s.pf b).selected c s = true := by
  cases h : s.pf.st <;> simp only [decodePfByte, h]
  case awaitStart | unused | awaitCount | awaitPacketByte | awaitEnd =>
    split <;> simp_all [Instr.byte?, Instr.selected, pfRow, PfSt.effective]
  case awaitChecksum =>
    split
    case isTrue hmatch =>
      split <;> simp_all [Instr.byte?, Instr.selected, pfRow, PfSt.effective]
    case isFalse hwrong => simp [Instr.byte?, Instr.selected, pfRow, PfSt.effective, hev, h, hwrong]

/-- R58: the transition the GF decodes from a byte consumes that byte, and its row applies. -/
theorem decodeGfByte_selected (c : Params) {s : State} (b : Byte) (hev : s.gf.evValid = false) :
    (decodeGfByte c s.gf b).byte? = some (.gf, b) ∧ (decodeGfByte c s.gf b).selected c s = true := by
  cases h : s.gf.st <;> simp only [decodeGfByte, h]
  case awaitStart | unused | awaitRangeCount | awaitEnd =>
    split <;> simp_all [Instr.byte?, Instr.selected, gfRow, GfSt.effective]
  case awaitStartLow | awaitStartHigh | awaitEndLow | awaitEndHigh | terminal =>
    simp [Instr.byte?, Instr.selected, gfRow, GfSt.effective, hev, h]
  case awaitChecksum =>
    split
    case isTrue hmatch =>
      split
      case isTrue hmore => simp [Instr.byte?, Instr.selected, gfRow, GfSt.effective, hev, h, hmatch, hmore]
      case isFalse hlast => split <;> simp_all [Instr.byte?, Instr.selected, gfRow, GfSt.effective]
    case isFalse hwrong => simp [Instr.byte?, Instr.selected, gfRow, GfSt.effective, hev, h, hwrong]

/-- Some row applies to each byte, and it is the one decoded. -/
theorem exists_selected (c : Params) {s : State} {u : UnitId} (b : Byte) (hev : s.evPending u = false) :
    ∃ i, decode c s (offer u b) = [i] ∧ i.byte? = some (u, b) ∧ i.selected c s = true := by
  cases u with
  | pf => exact ⟨_, decode_offer_pf c b hev, decodePfByte_selected c b hev⟩
  | gf => exact ⟨_, decode_offer_gf c b hev, decodeGfByte_selected c b hev⟩

/-! ### The encoder -/

/-- A transition is encoded as the offer of the byte it consumes. -/
theorem encode_of_byte {i : Instr} {u : UnitId} {b : Byte} (h : i.byte? = some (u, b)) : encode i = offer u b := by
  simp only [encode, h, offer]

/-- An instruction that consumes no byte is a port operation (43_control). -/
theorem portOp_of_byte_none {i : Instr} (h : i.byte? = none) :
    (∃ u, i = .reset u) ∨ (∃ u, i = .evtAck u) ∨ ∃ u a, i = .rd u a := by
  cases i with
  | reset u => exact .inl ⟨u, rfl⟩
  | evtAck u => exact .inr (.inl ⟨u, rfl⟩)
  | rd u a => exact .inr (.inr ⟨u, a, rfl⟩)
  | _ => nomatch h

theorem decode_encode_reset (c : Params) (s : State) (u : UnitId) : decode c s (encode (.reset u)) = [.reset u] := by
  cases u <;> simp [encode, Instr.byte?, edgeFor, decode, decodePf, decodeGf, rstIn, idleIn]

theorem decode_encode_evtAck (c : Params) {s : State} {u : UnitId} (hev : s.evPending u = true) :
    decode c s (encode (.evtAck u)) = [.evtAck u] := by
  cases u with
  | pf =>
    have hpf : s.pf.evValid = true := hev
    simp [encode, Instr.byte?, edgeFor, decode, decodePf, ackIn, hpf]
  | gf =>
    have hgf : s.gf.evValid = true := hev
    simp [encode, Instr.byte?, edgeFor, decode, decodeGf, ackIn, hgf]

/-- Settles O18: a transition is encoded as its byte, which decodes to the row that applies; each port operation drives the
one input that selects it. -/
theorem decodeEncodeAgree : Obligations.DecodeEncodeAgree := by
  intro c s i _ hsel
  cases hbyte : i.byte? with
  | some p => rw [encode_of_byte hbyte, decode_offer_of_selected hbyte hsel]
  | none =>
    obtain ⟨u, rfl⟩ | ⟨u, rfl⟩ | ⟨u, a, rfl⟩ := portOp_of_byte_none hbyte
    · exact decode_encode_reset c s u
    · exact decode_encode_evtAck c (by cases u <;> exact hsel)
    · rfl

/-- Settles O17: the decoded row applies, and any other row that applied would be decoded from the same byte. -/
theorem exactlyOneRowApplies : Obligations.ExactlyOneRowApplies := by
  intro c s u b hev
  obtain ⟨i, hdecode, hbyte, hsel⟩ := exists_selected c b hev
  refine ⟨i, hdecode, hbyte, hsel, fun j hbyte' _ hsel' => ?_⟩
  have hdecode' := decode_offer_of_selected hbyte' hsel'
  exact List.singleton_inj.1 (hdecode'.symm.trans hdecode)

/-- Settles O23: an edge moves each unit by its edge function and a read samples a value; both give a next state. -/
theorem stepNeverStops : Obligations.StepNeverStops := by
  intro s
  cases hf : fetch s with
  | edge p g => exact ⟨_, step_edge hf⟩
  | read r a =>
    obtain ⟨t, hread, -, -⟩ := step_read hf
    exact ⟨t, hread⟩

end Sys2Proof.Proofs.Encoding
end

section
/-! PROOFS. Byte streams at the transaction level: how `pfTxns` and `gfTxns` go on over appended streams and over bytes that
emit no event, and how a stream fills a buffer. -/

namespace Sys2Proof.Proofs.Streams

open Sys2Proof.Config Sys2Proof.Machine Sys2Proof.Proofs.Transactions

/-! ### The PF -/

/-- An acknowledge without a pending event changes nothing. -/
theorem pfAck_of_quiet {u : PfState} (hev : u.evValid = false) : u.ack = u := by
  rw [PfState.ack, ← hev]

@[simp] theorem pfTxns_nil (c : Params) (u : PfState) : pfTxns c u [] = (u, []) := rfl

theorem pfTxns_append (c : Params) (u : PfState) (bs cs : List Byte) :
    pfTxns c u (bs ++ cs) =
      ((pfTxns c (pfTxns c u bs).1 cs).1, (pfTxns c u bs).2 ++ (pfTxns c (pfTxns c u bs).1 cs).2) := by
  induction bs generalizing u with
  | nil => rfl
  | cons b bs ih => simp only [List.cons_append, pfTxns, ih, List.append_assoc]

/-- A stream with no event can be left out in front of another. -/
theorem pfTxns_append_of_silent {c : Params} {u v : PfState} {bs : List Byte} (h : pfTxns c u bs = (v, []))
    (cs : List Byte) : pfTxns c u (bs ++ cs) = pfTxns c v cs := by
  simp only [pfTxns_append, h, List.nil_append]

/-- A byte with no event can be left out in front of a stream. -/
theorem pfTxns_cons_of_silent {c : Params} {u v : PfState} {b : Byte} (h : pfTxn c u.ack b = (v, none))
    (bs : List Byte) : pfTxns c u (b :: bs) = pfTxns c v bs := by
  simp only [pfTxns, h, Option.toList_none, List.nil_append]

/-- Without a pending event, no acknowledge comes before the byte. -/
theorem pfTxns_cons_of_quiet {c : Params} {u v : PfState} {b : Byte} (hev : u.evValid = false)
    (h : pfTxn c u b = (v, none)) (bs : List Byte) : pfTxns c u (b :: bs) = pfTxns c v bs :=
  pfTxns_cons_of_silent (by rw [pfAck_of_quiet hev, h]) bs

/-! ### The GF -/

/-- An acknowledge without a pending event changes nothing. -/
theorem gfAck_of_quiet {u : GfState} (hev : u.evValid = false) : u.ack = u := by
  rw [GfState.ack, ← hev]

@[simp] theorem gfTxns_nil (c : Params) (u : GfState) : gfTxns c u [] = (u, []) := rfl

theorem gfTxns_append (c : Params) (u : GfState) (bs cs : List Byte) :
    gfTxns c u (bs ++ cs) =
      ((gfTxns c (gfTxns c u bs).1 cs).1, (gfTxns c u bs).2 ++ (gfTxns c (gfTxns c u bs).1 cs).2) := by
  induction bs generalizing u with
  | nil => rfl
  | cons b bs ih => simp only [List.cons_append, gfTxns, ih, List.append_assoc]

/-- A stream with no event can be left out in front of another. -/
theorem gfTxns_append_of_silent {c : Params} {u v : GfState} {bs : List Byte} (h : gfTxns c u bs = (v, []))
    (cs : List Byte) : gfTxns c u (bs ++ cs) = gfTxns c v cs := by
  simp only [gfTxns_append, h, List.nil_append]

/-- A byte with no event can be left out in front of a stream. -/
theorem gfTxns_cons_of_silent {c : Params} {u v : GfState} {b : Byte} (h : gfTxn c u.ack b = (v, none))
    (bs : List Byte) : gfTxns c u (b :: bs) = gfTxns c v bs := by
  simp only [gfTxns, h, Option.toList_none, List.nil_append]

/-- Without a pending event, no acknowledge comes before the byte. -/
theorem gfTxns_cons_of_quiet {c : Params} {u v : GfState} {b : Byte} (hev : u.evValid = false)
    (h : gfTxn c u b = (v, none)) (bs : List Byte) : gfTxns c u (b :: bs) = gfTxns c v bs :=
  gfTxns_cons_of_silent (by rw [gfAck_of_quiet hev, h]) bs

/-! ### Buffers -/

/-- The first elements of a buffer are `vs`. -/
def Begins {w : Nat} (m : Memory w) (vs : List (BitVec w)) : Prop := m.slice 0 vs.length = vs.map some

theorem begins_nil {w : Nat} (m : Memory w) : Begins m [] := rfl

/-- A write right after the first elements adds one to them. -/
theorem begins_write {w cap : Nat} {m : Memory w} {vs : List (BitVec w)} (v : BitVec w) (h : Begins m vs)
    (hroom : vs.length < cap) : Begins (m.write cap vs.length v) (vs ++ [v]) := by
  have hbelow : (m.write cap vs.length v).slice 0 vs.length = m.slice 0 vs.length :=
    Memory.slice_congr _ _ _ _ fun i hi => by rw [Memory.read_write, if_neg (by omega)]
  rw [Begins, List.length_append, List.length_singleton, Memory.slice_succ, hbelow, h, List.map_append, Nat.zero_add,
    Memory.read_write, if_pos ⟨rfl, hroom⟩]
  rfl

end Sys2Proof.Proofs.Streams
end

section
/-! PROOFS. Packet messages (30_encoding R54, R60): the state of the PF at the start of a packet, at the end of the last one,
and the event of the whole message. -/

namespace Sys2Proof.Proofs.PacketMessage

open Sys2Proof.Config Sys2Proof.Machine Sys2Proof.Proofs.Transactions Sys2Proof.Proofs.Invariant Sys2Proof.Proofs.Streams

/-! ### The end marker (R78, R79) -/

/-- In AwaitEnd the end marker emits the message, and leads back to AwaitStart. -/
theorem pfTxns_endByte (c : Params) {u : PfState} (hst : u.st = .awaitEnd) (hev : u.evValid = false) :
    pfTxns c u [endByte] =
      (u.raiseEom.setSt .awaitStart, [{ payload := u.pbuf.slice 0 (u.n.toNat * c.bpp), count := u.n }]) := by
  simp [pfTxns, pfAck_of_quiet hev, pfTxn_awaitEnd c endByte hst]

/-- In AwaitEnd bytes other than the end marker are lost. -/
theorem pfTxns_endNoise (c : Params) {u : PfState} (hst : u.st = .awaitEnd) (hev : u.evValid = false) {bs : List Byte}
    (hbs : ∀ b ∈ bs, b ≠ endByte) : pfTxns c u bs = (u, []) := by
  induction bs with
  | nil => rfl
  | cons b bs ih =>
    have hb : pfTxn c u b = (u, none) := by rw [pfTxn_awaitEnd c b hst, if_neg (hbs b List.mem_cons_self)]
    rw [pfTxns_cons_of_quiet hev hb, ih fun b' hb' => hbs b' (List.mem_cons_of_mem b hb')]

/-- Settles O38: the lost bytes leave the PF as it is, so the end marker after them emits what it held before them. -/
theorem lostEndKeepsMessage : Obligations.LostEndKeepsMessage := by
  intro c u bs hst hev hbs
  have hlost := pfTxns_endNoise c hst hev hbs
  refine ⟨hlost, ?_⟩
  simp [pfTxns_append_of_silent hlost, pfTxns_endByte c hst hev, Memory.slice]

/-! ### The payload of one packet (R73, R74) -/

/-- The PF after the payload bytes of a packet, but for the control state; `pfTxns_payload` ties it to `pfTxns`. -/
def storeAll (c : Params) (u : PfState) (p : List Byte) : PfState := p.foldl (PfState.storePayload c) u

@[simp] theorem storeAll_cons (c : Params) (u : PfState) (b : Byte) (p : List Byte) :
    storeAll c u (b :: p) = storeAll c (u.storePayload c b) p := rfl

@[simp] theorem storeAll_n (c : Params) (u : PfState) (p : List Byte) : (storeAll c u p).n = u.n := by
  induction p generalizing u with
  | nil => rfl
  | cons b p ih => exact ih _

@[simp] theorem storeAll_rem (c : Params) (u : PfState) (p : List Byte) : (storeAll c u p).rem = u.rem := by
  induction p generalizing u with
  | nil => rfl
  | cons b p ih => exact ih _

@[simp] theorem storeAll_evValid (c : Params) (u : PfState) (p : List Byte) :
    (storeAll c u p).evValid = u.evValid := by
  induction p generalizing u with
  | nil => rfl
  | cons b p ih => exact ih _

/-- R64: the accumulator takes the sum of the packet. -/
@[simp] theorem storeAll_acc (c : Params) (u : PfState) (p : List Byte) : (storeAll c u p).acc = u.acc + sum8 p := by
  induction p generalizing u with
  | nil => simp [storeAll]
  | cons b p ih => simp [ih, BitVec.add_assoc]

/-- The first elements of PBUF are the bytes `bs`, and the cursor stands after them. -/
structure Holds (u : PfState) (bs : List Byte) : Prop where
  cursor : u.cur = bs.length
  payload : Begins u.pbuf bs

theorem holds_storePayload {c : Params} (hc : c.legal) {u : PfState} {bs : List Byte} (b : Byte) (h : Holds u bs)
    (hroom : bs.length < pbufCap c) : Holds (u.storePayload c b) (bs ++ [b]) := by
  constructor
  · simp [h.cursor, curNext_eq c bs.length hc.1 hroom]
  · rw [PfState.storePayload_pbuf, h.cursor]
    exact begins_write b h.payload hroom

theorem holds_storeAll {c : Params} (hc : c.legal) {u : PfState} {bs p : List Byte} (h : Holds u bs)
    (hroom : bs.length + p.length ≤ pbufCap c) : Holds (storeAll c u p) (bs ++ p) := by
  induction p generalizing u bs with
  | nil => simpa [storeAll] using h
  | cons b p ih =>
    rw [List.length_cons] at hroom
    have hnext := ih (holds_storePayload hc b h (by omega)) (by simp; omega)
    simpa using hnext

/-- The bytes up to the end of packet `k` are stored, and lead to AwaitChecksum with the last of them. -/
theorem pfTxns_payload {c : Params} (hc : c.legal) {u : PfState} {k : Nat} {p : List Byte} (hk : k < 255)
    (hst : u.st = .awaitPacketByte) (hev : u.evValid = false) (hlo : k * c.bpp ≤ u.cur) (hne : p ≠ [])
    (hend : u.cur + p.length = (k + 1) * c.bpp) :
    pfTxns c u p = ((storeAll c u p).setSt .awaitChecksum, []) := by
  induction p generalizing u with
  | nil => exact absurd rfl hne
  | cons b p ih =>
    rw [List.length_cons] at hend
    have hcap : (k + 1) * c.bpp ≤ pbufCap c := Nat.mul_le_mul_right _ (by omega)
    have hnext : (u.storePayload c b).cur = u.cur + 1 := curNext_eq c u.cur hc.1 (by omega)
    have hlast := succ_mod_eq_zero_iff hlo (show u.cur < (k + 1) * c.bpp by omega)
    have htxn := pfTxn_awaitPacketByte c b hst
    cases p with
    | nil =>
      rw [if_pos (hlast.2 hend)] at htxn
      rw [pfTxns_cons_of_quiet hev htxn]
      rfl
    | cons b' p =>
      rw [List.length_cons] at hend
      have hstay : (u.storePayload c b).setSt .awaitPacketByte = u.storePayload c b := by rw [← hst]; rfl
      rw [if_neg (fun h => by have := hlast.1 h; omega), hstay] at htxn
      rw [pfTxns_cons_of_quiet hev htxn, storeAll_cons]
      exact ih hst hev (by omega) (List.cons_ne_nil b' p) (by rw [List.length_cons]; omega)

/-! ### Packets with matching checksums (R76, R77) -/

/-- The PF at the start of a packet, with the payload `bs` of the packets before it stored. -/
structure PacketDue (c : Params) (u : PfState) (bs : List Byte) : Prop where
  st : u.st = .awaitPacketByte
  quiet : u.evValid = false
  sum : u.acc = 0
  holds : Holds u bs
  place : bs.length = u.packet * c.bpp
  count : 1 ≤ u.rem.toNat ∧ u.rem.toNat ≤ u.n.toNat

/-- The PF after the last packet, with the payload `bs` of the whole message stored. -/
structure EndDue (c : Params) (u : PfState) (bs : List Byte) : Prop where
  st : u.st = .awaitEnd
  quiet : u.evValid = false
  length : bs.length = u.n.toNat * c.bpp
  payload : Begins u.pbuf bs

/-- The payload of a due packet is stored after that of the packets before it, up to the packet's place in PBUF. -/
theorem payload_of_packetDue {c : Params} (hc : c.legal) {u : PfState} {bs p : List Byte} (h : PacketDue c u bs)
    (hp : p.length = c.bpp) :
    pfTxns c u p = ((storeAll c u p).setSt .awaitChecksum, []) ∧ Holds (storeAll c u p) (bs ++ p) ∧
      (bs ++ p).length = (u.packet + 1) * c.bpp := by
  obtain ⟨hrem, hremn⟩ := h.count
  have hk : u.packet < 255 := by unfold PfState.packet; omega
  have hcur : u.cur = bs.length := h.holds.cursor
  have hlen : bs.length + p.length = (u.packet + 1) * c.bpp := by rw [h.place, hp, Nat.succ_mul]
  have hcap : bs.length + p.length ≤ pbufCap c := hlen ▸ Nat.mul_le_mul_right _ hk
  have hne : p ≠ [] := List.ne_nil_of_length_pos (hp ▸ hc.1)
  refine ⟨?_, holds_storeAll hc h.holds hcap, by rw [List.length_append, hlen]⟩
  exact pfTxns_payload hc hk h.st h.quiet (by rw [hcur, h.place]) hne (by rw [hcur, hlen])

/-- A matching checksum byte ends a due packet with no event. -/
theorem pfTxns_packet {c : Params} (hc : c.legal) {u : PfState} {bs p : List Byte} (h : PacketDue c u bs)
    (hp : p.length = c.bpp) :
    pfTxns c u (packetBytes p) =
      (if 2 ≤ u.rem.toNat then (storeAll c u p).nextPacket.setSt .awaitPacketByte
        else (storeAll c u p).lastPacket.setSt .awaitEnd, []) := by
  obtain ⟨hpayload, -, -⟩ := payload_of_packetDue hc h hp
  have hquiet : ((storeAll c u p).setSt .awaitChecksum).evValid = false := by simp [h.quiet]
  have hmatch : sum8 p = ((storeAll c u p).setSt .awaitChecksum).acc := by simp [h.sum]
  have htxn := pfTxn_awaitChecksum c (sum8 p) (u := (storeAll c u p).setSt .awaitChecksum) rfl
  rw [if_pos hmatch, PfState.setSt_rem, storeAll_rem] at htxn
  rw [packetBytes, pfTxns_append_of_silent hpayload, pfTxns_cons_of_quiet hquiet htxn]
  rfl

/-- R76: after a packet that is not the last, the next one is due. -/
theorem packetDue_next {c : Params} (hc : c.legal) {u : PfState} {bs p : List Byte} (h : PacketDue c u bs)
    (hp : p.length = c.bpp) (hmore : 2 ≤ u.rem.toNat) :
    ∃ v, pfTxns c u (packetBytes p) = (v, []) ∧ PacketDue c v (bs ++ p) ∧ v.n = u.n ∧ v.rem = u.rem - 1 := by
  obtain ⟨-, hholds, hlen⟩ := payload_of_packetDue hc h hp
  have hrun := pfTxns_packet hc h hp
  rw [if_pos hmore] at hrun
  obtain ⟨hrem, hremn⟩ := h.count
  have hrem' : (u.rem - 1).toNat = u.rem.toNat - 1 := by bv_omega
  refine ⟨_, hrun, ⟨rfl, by simp [h.quiet], rfl, ⟨hholds.cursor, hholds.payload⟩, ?_, ?_⟩, by simp, by simp⟩
  · rw [hlen]
    congr 1
    simp [PfState.packet]
    omega
  · simp
    omega

/-- R77: after the last packet, the end marker is due. -/
theorem endDue_of_last {c : Params} (hc : c.legal) {u : PfState} {bs p : List Byte} (h : PacketDue c u bs)
    (hp : p.length = c.bpp) (hlast : u.rem.toNat = 1) :
    ∃ v, pfTxns c u (packetBytes p) = (v, []) ∧ EndDue c v (bs ++ p) ∧ v.n = u.n := by
  obtain ⟨-, hholds, hlen⟩ := payload_of_packetDue hc h hp
  have hrun := pfTxns_packet hc h hp
  rw [if_neg (by omega)] at hrun
  obtain ⟨hrem, hremn⟩ := h.count
  have hall : u.packet + 1 = u.n.toNat := by unfold PfState.packet; omega
  exact ⟨_, hrun, ⟨rfl, by simp [h.quiet], by simp [hlen, hall], hholds.payload⟩, by simp⟩

/-- Packets before the last one are stored one after the other, with no event. -/
theorem packetDue_of_packets {c : Params} (hc : c.legal) {u : PfState} {bs : List Byte} {ps : List (List Byte)}
    (h : PacketDue c u bs) (hps : ∀ p ∈ ps, p.length = c.bpp) (hmore : ps.length < u.rem.toNat) :
    ∃ v, pfTxns c u (ps.flatMap packetBytes) = (v, []) ∧ PacketDue c v (bs ++ ps.flatten) ∧ v.n = u.n ∧
      v.rem.toNat + ps.length = u.rem.toNat := by
  induction ps generalizing u bs with
  | nil => exact ⟨u, rfl, by simpa using h, rfl, rfl⟩
  | cons p ps ih =>
    rw [List.length_cons] at hmore
    obtain ⟨v, hrun, hdue, hn, hrem⟩ := packetDue_next hc h (hps p List.mem_cons_self) (by omega)
    have hrem' : v.rem.toNat + 1 = u.rem.toNat := by rw [hrem]; bv_omega
    obtain ⟨w, hrun', hdue', hn', hrem''⟩ := ih hdue (fun q hq => hps q (List.mem_cons_of_mem p hq)) (by omega)
    refine ⟨w, ?_, by simpa using hdue', hn'.trans hn, by rw [List.length_cons]; omega⟩
    rw [List.flatMap_cons, pfTxns_append_of_silent hrun, hrun']

/-! ### Whole messages (R54) -/

/-- The start marker and a count byte lead to the state that the count selects, with nothing else of the PF left from before. -/
theorem pfTxns_startCount {c : Params} {u : PfState} (n : Byte) (hst : u.st = .awaitStart) :
    pfTxns c u [startByte, n] = ((u.ack.loadCount n).setSt (if n = 0 then .awaitEnd else .awaitPacketByte), []) := by
  rw [pfTxns_cons_of_silent (pfTxn_awaitStart c startByte (u := u.ack) hst), if_pos rfl,
    pfTxns_cons_of_silent (pfTxn_awaitCount c n rfl)]
  rfl

/-- R72: after a count of 1 or more the first packet is due. -/
theorem packetDue_of_count (c : Params) {u : PfState} {n : Byte} (hst : u.st = .awaitStart) (hn : n ≠ 0) :
    ∃ v, pfTxns c u [startByte, n] = (v, []) ∧ PacketDue c v [] ∧ v.n = n ∧ v.rem = n := by
  have hrun := pfTxns_startCount (c := c) n hst
  rw [if_neg hn] at hrun
  refine ⟨_, hrun, ⟨rfl, rfl, rfl, ⟨rfl, rfl⟩, ?_, ?_, le_rfl⟩, rfl, rfl⟩
  · rw [packet_loadCount, Nat.zero_mul]; rfl
  · show 1 ≤ n.toNat
    bv_omega

/-- A message up to its end marker is stored whole, with no event. -/
theorem endDue_of_message {c : Params} (hc : c.legal) {u : PfState} {ps : List (List Byte)} (hst : u.st = .awaitStart)
    (hlen : ps.length ≤ 255) (hps : ∀ p ∈ ps, p.length = c.bpp) :
    ∃ v, pfTxns c u (startByte :: BitVec.ofNat 8 ps.length :: ps.flatMap packetBytes) = (v, []) ∧
      EndDue c v ps.flatten ∧ v.n = BitVec.ofNat 8 ps.length := by
  obtain rfl | ⟨qs, p, rfl⟩ := List.eq_nil_or_concat ps
  · exact ⟨_, pfTxns_startCount 0 hst, ⟨rfl, rfl, by simp, rfl⟩, rfl⟩
  · rw [List.concat_eq_append] at *
    have hcount : (BitVec.ofNat 8 (qs ++ [p]).length).toNat = qs.length + 1 := by
      simp at hlen ⊢
      omega
    obtain ⟨v, hrun, hdue, hn, hrem⟩ :=
      packetDue_of_count c (n := BitVec.ofNat 8 (qs ++ [p]).length) hst (fun h => by rw [h] at hcount; simp at hcount)
    obtain ⟨w, hrun', hdue', hn', hrem'⟩ :=
      packetDue_of_packets hc hdue (ps := qs) (fun q hq => hps q (by simp [hq])) (by rw [hrem]; omega)
    obtain ⟨x, hrun'', hend, hn''⟩ := endDue_of_last hc hdue' (hps p (by simp)) (by rw [hrem] at hrem'; omega)
    refine ⟨x, ?_, by simpa using hend, by rw [hn'', hn', hn]⟩
    rw [List.flatMap_append, List.flatMap_singleton]
    exact (pfTxns_append_of_silent hrun _).trans ((pfTxns_append_of_silent hrun' _).trans hrun'')

/-- Settles O43: the message is stored whole with no event, and its end marker emits it. -/
theorem packetMessageDecodes : Obligations.PacketMessageDecodes := by
  intro c u ps hc hst hlen hps
  obtain ⟨v, hrun, ⟨hend, hquiet, hsize, hpayload⟩, hn⟩ := endDue_of_message hc hst hlen hps
  have hmsg : pfTxns c u (pktMsg ps) = pfTxns c v [endByte] := pfTxns_append_of_silent hrun [endByte]
  rw [hmsg, pfTxns_endByte c hend hquiet, ← hsize, hpayload, hn]
  exact ⟨rfl, rfl⟩

end Sys2Proof.Proofs.PacketMessage
end

section
/-! PROOFS. Group-setup messages (30_encoding R55): the state of the GF at the start of a range, the event of a group, and
the events of the whole message. -/

namespace Sys2Proof.Proofs.GroupMessage

open Sys2Proof.Config Sys2Proof.Machine Sys2Proof.Proofs.Transactions Sys2Proof.Proofs.Streams

/-! ### The four index bytes of a range (R86 to R89) -/

/-- A LED index is the pair of its two bytes (40_datapath R66). -/
theorem pairHigh_bytes (v : Slot) : pairHigh (hiByte v) (loByte v) = v := by
  have hsplit : hiByte v ++ loByte v = v.extractLsb' 0 16 :=
    BitVec.extractLsb'_append_extractLsb'_eq_extractLsb' (x := v) rfl
  rw [pairHigh_eq_append, hsplit, BitVec.extractLsb'_eq_self]

/-- The GF after the four index bytes of a range; `gfTxns_indexBytes` ties it to `gfTxns`. -/
def storeRange (u : GfState) (q : Slot × Slot) : GfState :=
  ((((u.takeLow (loByte q.1)).takeHigh u.startSlot (hiByte q.1)).takeLow (loByte q.2)).takeHigh u.endSlot
    (hiByte q.2)).setSt .awaitChecksum

theorem gfTxns_indexBytes (c : Params) {u : GfState} (q : Slot × Slot) (hst : u.st = .awaitStartLow)
    (hev : u.evValid = false) :
    gfTxns c u [loByte q.1, hiByte q.1, loByte q.2, hiByte q.2] = (storeRange u q, []) := by
  calc gfTxns c u [loByte q.1, hiByte q.1, loByte q.2, hiByte q.2]
    _ = gfTxns c _ [hiByte q.1, loByte q.2, hiByte q.2] := gfTxns_cons_of_quiet hev (gfTxn_awaitStartLow c _ hst) _
    _ = gfTxns c _ [loByte q.2, hiByte q.2] := gfTxns_cons_of_quiet (by exact hev) (gfTxn_awaitStartHigh c _ rfl) _
    _ = gfTxns c _ [hiByte q.2] := gfTxns_cons_of_quiet (by exact hev) (gfTxn_awaitEndLow c _ rfl) _
    _ = gfTxns c _ [] := gfTxns_cons_of_quiet (by exact hev) (gfTxn_awaitEndHigh c _ rfl) _
    _ = (storeRange u q, []) := rfl

@[simp] theorem storeRange_r (u : GfState) (q : Slot × Slot) : (storeRange u q).r = u.r := rfl

@[simp] theorem storeRange_k (u : GfState) (q : Slot × Slot) : (storeRange u q).k = u.k := rfl

@[simp] theorem storeRange_grp (u : GfState) (q : Slot × Slot) : (storeRange u q).grp = u.grp := rfl

@[simp] theorem storeRange_evValid (u : GfState) (q : Slot × Slot) : (storeRange u q).evValid = u.evValid := rfl

/-- R64: the accumulator takes the sum of the index bytes. -/
theorem storeRange_acc (u : GfState) (q : Slot × Slot) :
    (storeRange u q).acc = u.acc + sum8 [loByte q.1, hiByte q.1, loByte q.2, hiByte q.2] := by
  simp [storeRange, BitVec.add_assoc]

/-- Both indices are written to their slots. -/
theorem storeRange_rbuf (u : GfState) (q : Slot × Slot) :
    (storeRange u q).rbuf = (u.rbuf.write rbufCap (2 * u.k.toNat) q.1).write rbufCap (2 * u.k.toNat + 1) q.2 := by
  simp [storeRange, GfState.startSlot, GfState.endSlot, pairHigh_bytes]

/-! ### Ranges with matching checksums (R91 to R93) -/

/-- The GF at the start of a range, with the slots `vs` of the group's ranges before it written. -/
structure RangeDue (u : GfState) (vs : List Slot) : Prop where
  st : u.st = .awaitStartLow
  quiet : u.evValid = false
  sum : u.acc = u.r
  place : vs.length = 2 * u.k.toNat
  count : u.k.toNat < u.r.toNat
  slots : Begins u.rbuf vs

/-- The range due, once stored, has its two slots after those of the ranges before it. -/
theorem begins_storeRange {u : GfState} {vs : List Slot} (q : Slot × Slot) (h : RangeDue u vs) :
    Begins (storeRange u q).rbuf (vs ++ [q.1, q.2]) := by
  have hroom : 2 * u.k.toNat + 1 < rbufCap := by
    have := h.count
    unfold rbufCap
    omega
  have hstart := begins_write (cap := rbufCap) q.1 h.slots (by rw [h.place]; omega)
  have hend := begins_write (cap := rbufCap) q.2 hstart (by simpa [h.place] using hroom)
  rw [storeRange_rbuf, ← h.place]
  simpa using hend

/-- The checksum byte of the range due matches. -/
theorem rangeChecksum_eq_acc {u : GfState} {vs : List Slot} (q : Slot × Slot) (h : RangeDue u vs) :
    sum8 [u.r, loByte q.1, hiByte q.1, loByte q.2, hiByte q.2] = (storeRange u q).acc := by
  rw [storeRange_acc, h.sum, sum8_cons]

/-- The bytes of the range due are its checksum byte in the state that has stored it. -/
theorem gfTxns_rangeBytes (c : Params) {u : GfState} {vs : List Slot} (q : Slot × Slot) (h : RangeDue u vs) :
    gfTxns c u (rangeBytes u.r q) = gfTxns c (storeRange u q) [(storeRange u q).acc] := by
  rw [← rangeChecksum_eq_acc q h]
  exact gfTxns_append_of_silent (gfTxns_indexBytes c q h.st h.quiet) _

/-- R91: after a range that is not the group's last, the next one is due. -/
theorem rangeDue_next (c : Params) {u : GfState} {vs : List Slot} (q : Slot × Slot) (h : RangeDue u vs)
    (hmore : u.k.toNat + 1 < u.r.toNat) :
    ∃ v, gfTxns c u (rangeBytes u.r q) = (v, []) ∧ RangeDue v (vs ++ [q.1, q.2]) ∧ v.r = u.r ∧
      v.k.toNat = u.k.toNat + 1 ∧ v.grp = u.grp := by
  have hk : (u.k + 1).toNat = u.k.toNat + 1 := by bv_omega
  have htxn := gfTxn_awaitChecksum c (storeRange u q).acc (u := storeRange u q) rfl
  rw [if_pos rfl, storeRange_k, storeRange_r, if_pos hmore] at htxn
  have hquiet : (storeRange u q).evValid = false := h.quiet
  rw [gfTxns_rangeBytes c q h, gfTxns_cons_of_quiet hquiet htxn]
  refine ⟨_, rfl, ⟨rfl, h.quiet, rfl, ?_, ?_, begins_storeRange q h⟩, rfl, hk, rfl⟩
  · rw [List.length_append, h.place]
    show 2 * u.k.toNat + 2 = 2 * (u.k + 1).toNat
    omega
  · show (u.k + 1).toNat < u.r.toNat
    omega

/-- R92, R93: the matching checksum that completes a group presents it. -/
theorem gfTxns_groupEnd (c : Params) {u : GfState} (hst : u.st = .awaitChecksum) (hev : u.evValid = false)
    (hlast : u.r.toNat ≤ u.k.toNat + 1) :
    gfTxns c u [u.acc] =
      (u.raiseGrp.setSt (if u.grp.toNat + 1 < c.groups then .awaitRangeCount else .awaitEnd),
        [{ ranges := u.rbuf.slice 0 (2 * u.r.toNat), count := u.r, groupIndex := u.grp }]) := by
  simp [gfTxns, gfAck_of_quiet hev, gfTxn_awaitChecksum c u.acc hst, Nat.not_lt.2 hlast]

/-! ### Groups (R55) -/

/-- The event of group `i` of a message, with the ranges `qs`. -/
def groupEvent (i : Nat) (qs : List (Slot × Slot)) : Grp :=
  { ranges := (rangeSlots qs).map some, count := BitVec.ofNat 8 qs.length, groupIndex := BitVec.ofNat 8 i }

/-- The control state of the GF between groups, when `i` of them are complete. -/
def betweenGroups (c : Params) (i : Nat) : GfSt := if i < c.groups then .awaitRangeCount else .awaitEnd

/-- The bytes `bs` present group `i` with the ranges `qs`, and complete it. -/
def Presents (c : Params) (u : GfState) (bs : List Byte) (i : Nat) (qs : List (Slot × Slot)) : Prop :=
  ∃ v, gfTxns c u bs = (v, [groupEvent i qs]) ∧ v.st = betweenGroups c (i + 1) ∧ v.grp = BitVec.ofNat 8 (i + 1)

theorem presents_append {c : Params} {u v : GfState} {bs cs : List Byte} {i : Nat} {qs : List (Slot × Slot)}
    (hrun : gfTxns c u bs = (v, [])) (h : Presents c v cs i qs) : Presents c u (bs ++ cs) i qs := by
  rwa [Presents, gfTxns_append_of_silent hrun]

/-- The matching checksum presents a group whose slots are all written. -/
theorem presents_groupEnd {c : Params} {u : GfState} {i : Nat} {qs : List (Slot × Slot)} (hst : u.st = .awaitChecksum)
    (hev : u.evValid = false) (hlast : u.r.toNat ≤ u.k.toNat + 1) (hr : u.r = BitVec.ofNat 8 qs.length)
    (hlen : (rangeSlots qs).length = 2 * u.r.toNat) (hslots : Begins u.rbuf (rangeSlots qs)) (hi : i < 255)
    (hgrp : u.grp = BitVec.ofNat 8 i) : Presents c u [u.acc] i qs := by
  have hindex : u.grp.toNat = i := by rw [hgrp, BitVec.toNat_ofNat]; omega
  have hrun := gfTxns_groupEnd c hst hev hlast
  rw [← hlen, hslots, hr, hindex, hgrp] at hrun
  refine ⟨_, hrun, rfl, ?_⟩
  rw [GfState.setSt_grp, GfState.raiseGrp_grp, hgrp]
  exact (BitVec.ofNat_add ..).symm

theorem rangeSlots_length (qs : List (Slot × Slot)) : (rangeSlots qs).length = 2 * qs.length := by
  simp [rangeSlots, mul_comm]

theorem rangeSlots_concat (qs : List (Slot × Slot)) (q : Slot × Slot) :
    rangeSlots (qs ++ [q]) = rangeSlots qs ++ [q.1, q.2] := by
  simp [rangeSlots]

/-- Ranges before the group's last are stored one after the other, with no event. -/
theorem rangeDue_of_ranges (c : Params) {u : GfState} {qs : List (Slot × Slot)} {vs : List Slot} (h : RangeDue u vs)
    (hmore : u.k.toNat + qs.length < u.r.toNat) :
    ∃ v, gfTxns c u (qs.flatMap (rangeBytes u.r)) = (v, []) ∧ RangeDue v (vs ++ rangeSlots qs) ∧ v.r = u.r ∧
      v.k.toNat = u.k.toNat + qs.length ∧ v.grp = u.grp := by
  induction qs generalizing u vs with
  | nil => exact ⟨u, rfl, by simpa [rangeSlots] using h, rfl, rfl, rfl⟩
  | cons q qs ih =>
    rw [List.length_cons] at hmore
    obtain ⟨v, hrun, hdue, hr, hk, hgrp⟩ := rangeDue_next c q h (by omega)
    obtain ⟨w, hrun', hdue', hr', hk', hgrp'⟩ := ih hdue (by rw [hr]; omega)
    refine ⟨w, ?_, by simpa [rangeSlots] using hdue', hr'.trans hr, by rw [List.length_cons]; omega, hgrp'.trans hgrp⟩
    rw [List.flatMap_cons, gfTxns_append_of_silent hrun, ← hr, hrun']

/-- R84: a group of no ranges is presented by the checksum 0. -/
theorem presents_emptyGroup {c : Params} {u : GfState} {i : Nat} (hst : u.st = .awaitRangeCount) (hi : i < 255)
    (hgrp : u.grp = BitVec.ofNat 8 i) : Presents c u (groupBytes []) i [] := by
  have hcount : gfTxns c u [0] = ((u.ack.loadRangeCount 0).setSt .awaitChecksum, []) :=
    gfTxns_cons_of_silent (gfTxn_awaitRangeCount c 0 hst) []
  exact presents_append hcount (presents_groupEnd rfl rfl (Nat.zero_le _) rfl rfl rfl hi hgrp)

/-- R85: after a range count of 1 or more the first range is due. -/
theorem rangeDue_of_count (c : Params) {u : GfState} {r : Byte} (hst : u.st = .awaitRangeCount) (hr : r ≠ 0) :
    ∃ v, gfTxns c u [r] = (v, []) ∧ RangeDue v [] ∧ v.r = r ∧ v.k = 0 ∧ v.grp = u.grp := by
  have htxn := gfTxn_awaitRangeCount c r (u := u.ack) hst
  rw [if_neg hr] at htxn
  refine ⟨_, gfTxns_cons_of_silent htxn [], ⟨rfl, rfl, rfl, rfl, ?_, rfl⟩, rfl, rfl, rfl⟩
  show 0 < r.toNat
  bv_omega

/-- The last range of a group presents the group. -/
theorem presents_lastRange {c : Params} {u : GfState} {i : Nat} {qs : List (Slot × Slot)} (q : Slot × Slot)
    (h : RangeDue u (rangeSlots qs)) (hr : u.r = BitVec.ofNat 8 (qs ++ [q]).length) (hcount : u.r.toNat = qs.length + 1)
    (hi : i < 255) (hgrp : u.grp = BitVec.ofNat 8 i) : Presents c u (rangeBytes u.r q) i (qs ++ [q]) := by
  have hplace := h.place
  rw [rangeSlots_length] at hplace
  rw [Presents, gfTxns_rangeBytes c q h]
  refine presents_groupEnd rfl h.quiet ?_ hr ?_ ?_ hi hgrp
  · rw [storeRange_r, storeRange_k]
    omega
  · rw [rangeSlots_length, storeRange_r, hcount, List.length_append, List.length_singleton]
  · rw [rangeSlots_concat]
    exact begins_storeRange q h

/-- A group with ranges is presented by the checksum of its last range. -/
theorem presents_ranges {c : Params} {u : GfState} {i : Nat} {qs : List (Slot × Slot)} (q : Slot × Slot)
    (hst : u.st = .awaitRangeCount) (hlen : qs.length < 255) (hi : i < 255) (hgrp : u.grp = BitVec.ofNat 8 i) :
    Presents c u (groupBytes (qs ++ [q])) i (qs ++ [q]) := by
  have hcount : (BitVec.ofNat 8 (qs ++ [q]).length).toNat = qs.length + 1 := by simp; omega
  obtain ⟨v, hrun, hdue, hr, hk, hgrp'⟩ :=
    rangeDue_of_count c (r := BitVec.ofNat 8 (qs ++ [q]).length) hst (fun h => by rw [h] at hcount; simp at hcount)
  have hmore : v.k.toNat + qs.length < v.r.toNat := by rw [hr, hk, hcount]; simp
  obtain ⟨w, hrun', hdue', hr', -, hgrp''⟩ := rangeDue_of_ranges c hdue hmore
  rw [hr] at hr'
  have hlast := presents_lastRange (c := c) q hdue' hr' (hr' ▸ hcount) hi (hgrp''.trans (hgrp'.trans hgrp))
  have hbytes : groupBytes (qs ++ [q]) =
      [BitVec.ofNat 8 (qs ++ [q]).length] ++ (qs.flatMap (rangeBytes v.r) ++ rangeBytes w.r q) := by
    simp [groupBytes, hr', hr]
  rw [hbytes]
  exact presents_append hrun (presents_append hrun' hlast)

/-- R55: whatever its number of ranges, a group is presented as it stands on the wire. -/
theorem presents_group {c : Params} {u : GfState} {i : Nat} {qs : List (Slot × Slot)} (hst : u.st = .awaitRangeCount)
    (hlen : qs.length ≤ 255) (hi : i < 255) (hgrp : u.grp = BitVec.ofNat 8 i) : Presents c u (groupBytes qs) i qs := by
  obtain rfl | ⟨qs, q, rfl⟩ := List.eq_nil_or_concat qs
  · exact presents_emptyGroup hst hi hgrp
  · rw [List.concat_eq_append] at *
    exact presents_ranges q hst (by simpa using hlen) hi hgrp

/-! ### Whole messages -/

/-- From group `i` on, the groups of a message are presented in order, and the end marker is awaited after the last. -/
theorem gfTxns_groups {c : Params} (hc : c.legal) {u : GfState} {i : Nat} {gs : List (List (Slot × Slot))}
    (hst : u.st = betweenGroups c i) (hgrp : u.grp = BitVec.ofNat 8 i) (hall : i + gs.length = c.groups)
    (hgs : ∀ qs ∈ gs, qs.length ≤ 255) :
    ∃ v, gfTxns c u (gs.flatMap groupBytes) = (v, gs.mapIdx fun j qs => groupEvent (i + j) qs) ∧ v.st = .awaitEnd := by
  induction gs generalizing u i with
  | nil => exact ⟨u, rfl, by rw [hst, betweenGroups, if_neg (by simp at hall; omega)]⟩
  | cons qs gs ih =>
    rw [List.length_cons] at hall
    rw [betweenGroups, if_pos (by omega)] at hst
    have := hc.2.2
    obtain ⟨v, hrun, hst', hgrp'⟩ := presents_group (c := c) hst (hgs qs List.mem_cons_self) (by omega) hgrp
    obtain ⟨w, hrun', hend⟩ := ih hst' hgrp' (by omega) (fun q hq => hgs q (List.mem_cons_of_mem qs hq))
    refine ⟨w, ?_, hend⟩
    simp [gfTxns_append, hrun, hrun', List.mapIdx_cons, Nat.add_assoc, Nat.add_comm 1]

/-- R94: the end marker after the last group leads to Terminal. -/
theorem gfTxns_endByte (c : Params) {u : GfState} (hst : u.st = .awaitEnd) :
    gfTxns c u [endByte] = (u.ack.setSt .terminal, []) :=
  gfTxns_cons_of_silent (gfTxn_awaitEnd c endByte hst) []

/-- Settles O45: the start marker awaits group 0, the groups are presented in order, and the end marker leads to Terminal. -/
theorem groupMessageDecodes : Obligations.GroupMessageDecodes := by
  intro c u gs hc hst hgrp hlen hgs
  have hstart : gfTxns c u [startByte] = (u.ack.setSt .awaitRangeCount, []) :=
    gfTxns_cons_of_silent (gfTxn_awaitStart c startByte hst) []
  have hfirst : GfSt.awaitRangeCount = betweenGroups c 0 := (if_pos hc.2.1).symm
  obtain ⟨v, hrun, hend⟩ := gfTxns_groups hc (u := u.ack.setSt .awaitRangeCount) hfirst hgrp (by omega) hgs
  have hmsg : gfTxns c u (grpMsg gs) = gfTxns c (u.ack.setSt .awaitRangeCount) (gs.flatMap groupBytes ++ [endByte]) :=
    gfTxns_append_of_silent hstart _
  rw [hmsg, gfTxns_append, hrun, gfTxns_endByte c hend]
  simp [groupEvent]

end Sys2Proof.Proofs.GroupMessage
end

section
/-! PROOFS. The datapath functions (40_datapath R64 to R66): the checksum as an integer sum, what it detects, and the pairing
of two bytes to a LED index. -/

namespace Sys2Proof.Proofs.Datapath

open Sys2Proof.Config Sys2Proof.Machine Sys2Proof.Proofs.GroupMessage

/-! ### The checksum accumulator (R64, R65) -/

/-- ACC_ADD of the bytes of a list adds their sum to whatever the accumulator held. -/
theorem foldl_accAdd (a : Byte) (bs : List Byte) : bs.foldl accAdd a = a + sum8 bs :=
  foldl_add_eq bs a

theorem toNat_sum8 (bs : List Byte) : (sum8 bs).toNat = (bs.map BitVec.toNat).sum % 256 := by
  induction bs with
  | nil => rfl
  | cons b bs ih => rw [sum8_cons, BitVec.toNat_add, ih, List.map_cons, List.sum_cons, Nat.add_mod_mod]

/-- Settles O40: loading a byte and adding the others is `foldl_accAdd` from that byte, and the integer sum is `toNat_sum8`. -/
theorem accumulatorHoldsSum : Obligations.AccumulatorHoldsSum := by
  intro v bs
  have hacc : bs.foldl accAdd (accLoad v) = sum8 (v :: bs) := by rw [foldl_accAdd, accLoad_eq, sum8_cons]
  exact ⟨hacc, toNat_sum8 (v :: bs)⟩

/-- With the other bytes fixed, the sum determines each byte: addition modulo 256 cancels. -/
theorem sum8_replace_eq_iff (pre post : List Byte) (b b' : Byte) :
    sum8 (pre ++ b :: post) = sum8 (pre ++ b' :: post) ↔ b = b' := by
  rw [sum8_append, sum8_append, sum8_cons, sum8_cons, BitVec.add_right_inj, BitVec.add_left_inj]

theorem sum8_perm {bs cs : List Byte} (h : bs.Perm cs) : sum8 bs = sum8 cs :=
  h.foldl_eq 0

/-- Settles O41: a changed byte is seen because the sum cancels (`sum8_replace_eq_iff`), a reordering is not because the sum
is commutative (`sum8_perm`). -/
theorem sumDetectsOneByte : Obligations.SumDetectsOneByte :=
  ⟨fun pre post b b' hne hsum => hne ((sum8_replace_eq_iff pre post b b').1 hsum), fun _ _ => sum8_perm⟩

/-! ### Byte pairs (R66) -/

/-- The low byte stays below the shifted high byte, so that the bitwise or of the two is their sum. -/
theorem toNat_pairHigh (hi lo : Byte) : (pairHigh hi lo).toNat = hi.toNat * 256 + lo.toNat := by
  rw [pairHigh_eq_append, BitVec.toNat_append, ← Nat.shiftLeft_add_eq_or_of_lt lo.isLt, Nat.shiftLeft_eq]

@[simp] theorem hiByte_pairHigh (hi lo : Byte) : hiByte (pairHigh hi lo) = hi := by
  rw [pairHigh_eq_append]
  exact BitVec.extractLsb'_append_eq_left

@[simp] theorem loByte_pairHigh (hi lo : Byte) : loByte (pairHigh hi lo) = lo := by
  rw [pairHigh_eq_append]
  exact BitVec.extractLsb'_append_eq_right

/-- Settles O42: a slot value is the pair of its own two bytes (`pairHigh_bytes`), and any pair that gives it gives these
bytes back. -/
theorem pairIsHighTimes256PlusLow : Obligations.PairIsHighTimes256PlusLow := by
  refine ⟨toNat_pairHigh, fun v => ⟨hiByte v, loByte v, pairHigh_bytes v, ?_⟩⟩
  rintro hi lo rfl
  exact ⟨(hiByte_pairHigh hi lo).symm, (loByte_pairHigh hi lo).symm⟩

end Sys2Proof.Proofs.Datapath
end

section
/-! PROOFS. The packet framer (41_packet_framer): its transitions that store no payload (R69 to R72, R79), a wrong checksum
(R75), and what a rising edge does to it (43_control R98). -/

namespace Sys2Proof.Proofs.PacketFramer

open Sys2Proof.Config Sys2Proof.Machine Sys2Proof.Proofs.Transactions Sys2Proof.Proofs.Edge Sys2Proof.Proofs.Encoding
  Sys2Proof.Proofs.Streams Sys2Proof.Proofs.PacketMessage

/-! ### A rising edge (R98) -/

/-- R28: to recover is to move to the control state that a byte's selection reads. -/
theorem pfRecover_eq_setSt_effective (u : PfState) : u.recover = u.setSt u.st.effective := by
  obtain h | ⟨n, h⟩ := pfSt_used_or_unused u.st
  · rw [u.recover_of_used h, pfEffective_of_used h]; rfl
  · rw [pfRecover_of_unused h, h]; rfl

/-- Settles O21: the edge moves the PF by `pfEdge`, whose branches are those of R98, the last of them a recovery. -/
theorem pfEdgePriority : Obligations.PfEdgePriority := by
  intro s p g rest hhost
  have hf : fetch s = .edge p g := by rw [fetch, hhost, List.headD_cons]
  refine ⟨_, step_edge hf, by rw [hhost, List.tail_cons], ?_⟩
  show pfEdge params p s.pf = _
  rw [pfEdge, pfRecover_eq_setSt_effective]
  rfl

/-! ### A wrong checksum (R75) -/

/-- R75: a wrong checksum byte after the payload of a due packet aborts the message with no event. -/
theorem pfTxns_wrongPacket {c : Params} (hc : c.legal) {u : PfState} {bs p : List Byte} {b : Byte} (h : PacketDue c u bs)
    (hp : p.length = c.bpp) (hb : b ≠ sum8 p) : pfTxns c u (p ++ [b]) = ((storeAll c u p).abort, []) := by
  obtain ⟨hpayload, -, -⟩ := payload_of_packetDue hc h hp
  have hquiet : ((storeAll c u p).setSt .awaitChecksum).evValid = false := by simp [h.quiet]
  have hwrong : b ≠ ((storeAll c u p).setSt .awaitChecksum).acc := by simpa [h.sum] using hb
  have htxn := pfTxn_awaitChecksum c b (u := (storeAll c u p).setSt .awaitChecksum) rfl
  rw [if_neg hwrong] at htxn
  rw [pfTxns_append_of_silent hpayload, pfTxns_cons_of_quiet hquiet htxn]
  rfl

/-- Settles O44: the right packets leave one more packet due, because they are fewer than the count, and the wrong one
aborts the message. -/
theorem corruptChecksumAborts : Obligations.CorruptChecksumAborts := by
  intro c u n b ps p hc hst hfew hps hp hb
  have hn : n ≠ 0 := by rintro rfl; simp at hfew
  obtain ⟨v, hcount, hdue, -, hrem⟩ := packetDue_of_count c hst hn
  obtain ⟨w, hright, hdue', -, -⟩ := packetDue_of_packets hc hdue hps (hrem ▸ hfew)
  have hrun : pfTxns c u (startByte :: n :: (ps.flatMap packetBytes ++ p ++ [b])) = ((storeAll c w p).abort, []) := by
    rw [List.append_assoc]
    exact (pfTxns_append_of_silent hcount _).trans
      ((pfTxns_append_of_silent hright _).trans (pfTxns_wrongPacket hc hdue' hp hb))
  rw [hrun]
  exact ⟨rfl, rfl⟩

/-! ### Markers and counts (R69 to R72, R79) -/

/-- In a named control state with no event pending, a row of that state applies where its condition holds. -/
theorem pfRow_of_named {s : State} {st : PfSt} {cond : Bool} (hev : s.pf.evValid = false) (hst : s.pf.st = st)
    (hnamed : st.used = true) (hcond : cond = true) : pfRow s st cond = true :=
  (pfRow_iff s st cond).2 ⟨hev, by rw [hst, pfEffective_of_used hnamed], hcond⟩

/-- R71, R72: in AwaitCount every byte other than 0 is a count. -/
theorem decode_offer_pfCount (c : Params) {s : State} {b : Byte} (hev : s.pf.evValid = false) (hst : s.pf.st = .awaitCount)
    (hb : b ≠ 0) : decode c s (offer .pf b) = [.pfCount b] :=
  decode_offer_of_selected rfl (pfRow_of_named hev hst rfl (decide_eq_true hb))

/-- Settles O1: the row of the start marker applies, and after it 0xFE is one of the bytes that are a count. -/
theorem pfStartResult : Obligations.PfStartResult := by
  intro c s hst hev
  refine ⟨?_, rfl, ?_⟩
  · exact decode_offer_of_selected rfl (pfRow_of_named hev hst rfl rfl)
  · exact decode_offer_pfCount c hev rfl (by decide)

/-- Settles O2: where a byte is not the marker that is awaited, the noise row applies, whose meaning is the same state. -/
theorem pfNoiseChangesNothing : Obligations.PfNoiseChangesNothing := by
  intro c s b hev
  constructor
  · intro hst hb
    exact ⟨decode_offer_of_selected rfl (pfRow_of_named hev hst rfl (decide_eq_true hb)), rfl⟩
  · intro hst hb
    exact ⟨decode_offer_of_selected rfl (pfRow_of_named hev hst rfl (decide_eq_true hb)), rfl⟩

/-- Settles O3: the count decides which of the two rows applies, and both load it. -/
theorem pfCountLoads : Obligations.PfCountLoads := by
  intro c s b hst hev
  refine ⟨⟨?_, rfl⟩, fun hb => ⟨decode_offer_pfCount c hev hst hb, rfl⟩⟩
  exact decode_offer_of_selected rfl (pfRow_of_named hev hst rfl rfl)

end Sys2Proof.Proofs.PacketFramer
end

section
/-! PROOFS. The group framer (42_group_framer): its transitions inside a group that store no slot (R83 to R86, R88, R90, R91,
R95, R96), what a rising edge does to it (43_control R98), and that Terminal ends only by reset (70_reset R131). -/

namespace Sys2Proof.Proofs.GroupFramer

open Sys2Proof.Config Sys2Proof.Machine Sys2Proof.Proofs.Transactions Sys2Proof.Proofs.Edge Sys2Proof.Proofs.MemoryRules
  Sys2Proof.Proofs.Encoding

/-! ### A rising edge (R98) -/

/-- R28: to recover is to move to the control state that a byte's selection reads, and to clear grp if that is another. -/
theorem gfRecover_eq_effective (u : GfState) :
    u.recover = { u with st := u.st.effective, grp := if u.st.used then u.grp else 0 } := by
  obtain h | ⟨n, h⟩ := gfSt_used_or_unused u.st
  · rw [u.recover_of_used h, gfEffective_of_used h, if_pos h]
  · rw [gfRecover_of_unused h, h]; rfl

/-- Settles O22: the edge moves the GF by `gfEdge`, whose branches are those of R98, the last of them a recovery. -/
theorem gfEdgePriority : Obligations.GfEdgePriority := by
  intro s p g rest hhost
  have hf : fetch s = .edge p g := by rw [fetch, hhost, List.headD_cons]
  refine ⟨_, step_edge hf, by rw [hhost, List.tail_cons], ?_⟩
  show gfEdge params g s.gf = _
  rw [gfEdge, gfRecover_eq_effective]
  rfl

/-! ### Runs that do not move the GF (R96, R131) -/

/-- A step takes one action off the host's list, whatever the action is. -/
theorem step_host {s t : State} (h : step s = .next t) : t.host = s.host.tail := by
  cases hf : fetch s with
  | edge p g =>
    rw [step_edge hf] at h
    obtain rfl := Host.Outcome.next.inj h
    rfl
  | read r a =>
    rw [step, hf, decode, runInstrs_singleton] at h
    cases r with
    | pf => obtain rfl := Host.Outcome.next.inj h; rfl
    | gf => obtain rfl := Host.Outcome.next.inj h; rfl

/-- What idle inputs and each of the next n + 1 host actions have, the action of this step and the n after it have. -/
theorem fetch_of_take_succ {P : HostAct → Prop} {n : Nat} {s : State} (hidle : P (.edge idleIn idleIn))
    (h : ∀ a ∈ s.host.take (n + 1), P a) : P (fetch s) ∧ ∀ a ∈ s.host.tail.take n, P a := by
  rw [fetch]
  cases hhost : s.host with
  | nil => exact ⟨hidle, by simp⟩
  | cons a rest =>
    rw [hhost, List.take_succ_cons] at h
    exact List.forall_mem_cons.1 h

/-- A GF state that an edge with none of the admitted inputs moves is kept by every run on such inputs. -/
theorem run_keeps_gf {P : HostAct → Prop} {u : GfState} (hidle : P (.edge idleIn idleIn))
    (hfix : ∀ a, P a → gfEdge params a.gfIn u = u) (n : Nat) {s : State} (hs : s.gf = u)
    (h : ∀ a ∈ s.host.take n, P a) : ∃ t, Host.Core.run Sys2Proof.core n s = .next t ∧ t.gf = u := by
  induction n generalizing s with
  | zero => exact ⟨s, rfl, hs⟩
  | succ n ih =>
    obtain ⟨hnow, hlater⟩ := fetch_of_take_succ hidle h
    obtain ⟨t, hstep⟩ := stepNeverStops s
    have ht : t.gf = u := by
      obtain ⟨-, hgf⟩ := step_units hstep
      rw [hgf, hs, hfix _ hnow, ite_self]
    rw [run_succ_of_next hstep]
    exact ih ht (step_host hstep ▸ hlater)

/-- R96: in Terminal with no event pending, an edge without reset leaves the GF as it is, whatever byte it offers. -/
theorem gfEdge_terminal (c : Params) {u : GfState} {g : PortIn} (hst : u.st = .terminal) (hev : u.evValid = false)
    (hrst : g.rst = false) : gfEdge c g u = u := by
  have hnamed : u.st.used = true := by rw [hst]; rfl
  simp [gfEdge, hrst, hev, gfTxn_terminal c g.inData hst, u.recover_of_used hnamed]

/-- Settles O37: an edge without reset does not move the GF out of Terminal, and so no run of them does. -/
theorem terminalIsAbsorbing : Obligations.TerminalIsAbsorbing := by
  intro n s hst hev hrst
  exact run_keeps_gf (P := fun a => a.gfIn.rst = false) rfl (fun _ ha => gfEdge_terminal params hst hev ha) n rfl hrst

/-! ### Noise, counts, low bytes and checksums (R83 to R86, R88, R90, R91, R95, R96) -/

/-- In a named control state with no event pending, a row of that state applies where its condition holds. -/
theorem gfRow_of_named {s : State} {st : GfSt} {cond : Bool} (hev : s.gf.evValid = false) (hst : s.gf.st = st)
    (hnamed : st.used = true) (hcond : cond = true) : gfRow s st cond = true :=
  (gfRow_iff s st cond).2 ⟨hev, by rw [hst, gfEffective_of_used hnamed], hcond⟩

/-- Settles O8: where a byte is not the marker that is awaited, and on every byte in Terminal, the row that applies has the
same state as its meaning. -/
theorem gfNoiseChangesNothing : Obligations.GfNoiseChangesNothing := by
  intro c s b hev
  refine ⟨fun hst hb => ⟨?_, rfl⟩, fun hst hb => ⟨?_, rfl⟩, fun hst => ⟨?_, rfl⟩⟩
  · exact decode_offer_of_selected rfl (gfRow_of_named hev hst rfl (decide_eq_true hb))
  · exact decode_offer_of_selected rfl (gfRow_of_named hev hst rfl (decide_eq_true hb))
  · exact decode_offer_of_selected rfl (gfRow_of_named hev hst rfl rfl)

/-- Settles O9: the count decides which of the two rows applies, and both load it. -/
theorem gfRangeCountLoads : Obligations.GfRangeCountLoads := by
  intro c s b hst hev
  refine ⟨⟨?_, rfl⟩, fun hb => ⟨?_, rfl⟩⟩
  · exact decode_offer_of_selected rfl (gfRow_of_named hev hst rfl rfl)
  · exact decode_offer_of_selected rfl (gfRow_of_named hev hst rfl (decide_eq_true hb))

/-- Settles O10: each of the two states has one row, which admits every byte. -/
theorem gfLowByteLatches : Obligations.GfLowByteLatches := by
  intro c s b hev
  refine ⟨fun hst => ⟨?_, rfl⟩, fun hst => ⟨?_, rfl⟩⟩
  · exact decode_offer_of_selected rfl (gfRow_of_named hev hst rfl rfl)
  · exact decode_offer_of_selected rfl (gfRow_of_named hev hst rfl rfl)

/-- Settles O12: the comparisons with acc and with the range count are the conditions of the two rows. -/
theorem gfChecksumInsideGroup : Obligations.GfChecksumInsideGroup := by
  intro c s b hst hev
  refine ⟨fun hwrong => ⟨?_, rfl⟩, fun hmatch hmore => ⟨?_, rfl⟩⟩
  · exact decode_offer_of_selected rfl (gfRow_of_named hev hst rfl (decide_eq_true hwrong))
  · exact decode_offer_of_selected rfl (gfRow_of_named hev hst rfl (decide_eq_true ⟨hmatch, hmore⟩))

end Sys2Proof.Proofs.GroupFramer
end

section
/-! PROOFS. The ports (43_control): a pending event stalls its unit until an acknowledge or a reset (R101, 60_exceptions R120). -/

namespace Sys2Proof.Proofs.Control

open Sys2Proof.Config Sys2Proof.Machine Sys2Proof.Proofs.Edge Sys2Proof.Proofs.MemoryRules Sys2Proof.Proofs.Encoding
  Sys2Proof.Proofs.GroupFramer

/-! ### A pending event at an edge (R101) -/

/-- R101: with an event pending, an edge that neither resets nor acknowledges leaves the PF as it is: no byte is accepted, and
a named control state has nothing to recover. -/
theorem pfEdge_pending (c : Params) {u : PfState} {p : PortIn} (hev : u.evValid = true) (hnamed : u.st.used = true)
    (hrst : p.rst = false) (hack : p.evtReady = false) : pfEdge c p u = u := by
  simp [pfEdge, hrst, hack, hev, u.recover_of_used hnamed]

/-- R101: with an event pending, an edge that neither resets nor acknowledges leaves the GF as it is. -/
theorem gfEdge_pending (c : Params) {u : GfState} {g : PortIn} (hev : u.evValid = true) (hnamed : u.st.used = true)
    (hrst : g.rst = false) (hack : g.evtReady = false) : gfEdge c g u = u := by
  simp [gfEdge, hrst, hack, hev, u.recover_of_used hnamed]

/-! ### Runs on admitted host actions -/

/-- What every step on an admitted host action keeps, every run on such actions keeps; when the host's list runs out, idle
inputs are the action, so they have to be admitted. -/
theorem run_keeps {P : HostAct → Prop} {Q : State → Prop} (hidle : P (.edge idleIn idleIn))
    (hkeep : ∀ {s t : State}, P (fetch s) → Q s → step s = .next t → Q t) (n : Nat) {s : State} (hs : Q s)
    (h : ∀ a ∈ s.host.take n, P a) : ∃ t, Host.Core.run Sys2Proof.core n s = .next t ∧ Q t := by
  induction n generalizing s with
  | zero => exact ⟨s, rfl, hs⟩
  | succ n ih =>
    obtain ⟨hnow, hlater⟩ := fetch_of_take_succ hidle h
    obtain ⟨t, hstep⟩ := stepNeverStops s
    rw [run_succ_of_next hstep]
    exact ih (hkeep hnow hs hstep) (step_host hstep ▸ hlater)

/-- A PF state that an edge with none of the admitted inputs moves is kept by every run on such inputs. -/
theorem run_keeps_pf {P : HostAct → Prop} {u : PfState} (hidle : P (.edge idleIn idleIn))
    (hfix : ∀ a, P a → pfEdge params a.pfIn u = u) (n : Nat) {s : State} (hs : s.pf = u)
    (h : ∀ a ∈ s.host.take n, P a) : ∃ t, Host.Core.run Sys2Proof.core n s = .next t ∧ t.pf = u := by
  refine run_keeps (Q := fun s => s.pf = u) hidle (fun hnow hs hstep => ?_) n hs h
  obtain ⟨hpf, -⟩ := step_units hstep
  rw [hpf, hs, hfix _ hnow, ite_self]

/-- Settles O36: an edge with no acknowledge and no reset does not move a unit whose event is pending, and so no run of them
does. -/
theorem pendingEventHoldsUnit : Obligations.PendingEventHoldsUnit := by
  intro n s
  constructor
  · intro hev hnamed hin
    exact run_keeps_pf (P := fun a => a.pfIn.rst = false ∧ a.pfIn.evtReady = false) ⟨rfl, rfl⟩
      (fun _ ⟨hrst, hack⟩ => pfEdge_pending params hev hnamed hrst hack) n rfl hin
  · intro hev hnamed hin
    exact run_keeps_gf (P := fun a => a.gfIn.rst = false ∧ a.gfIn.evtReady = false) ⟨rfl, rfl⟩
      (fun _ ⟨hrst, hack⟩ => gfEdge_pending params hev hnamed hrst hack) n rfl hin

end Sys2Proof.Proofs.Control
end

section
/-! PROOFS. Refinement (43_control R106): a port-level run moves a unit by the transactions of the bytes it accepts, and lags
behind them by at most the acknowledge of the last event. The argument is made once, for what the two units have in common
(`Framer`), and each unit is then shown to have it. -/

namespace Sys2Proof.Proofs.Refinement

open Sys2Proof.Config Sys2Proof.Machine Sys2Proof.Proofs.Transactions Sys2Proof.Proofs.Edge Sys2Proof.Proofs.Invariant
  Sys2Proof.Proofs.MemoryRules Sys2Proof.Proofs.Encoding Sys2Proof.Proofs.Streams Sys2Proof.Proofs.GroupFramer

/-! ### What the two units have in common -/

/-- A unit with state `U` and events `E`, seen from its ports and at the transaction level: `pfFramer` or `gfFramer`. -/
structure Framer (U E : Type) where
  unit : State → U
  input : HostAct → PortIn
  /-- The invariant of the unit's reachable states. -/
  Inv : U → Prop
  evValid : U → Bool
  pending : U → Option E
  reset : U
  ack : U → U
  recover : U → U
  txn : U → Byte → U × Option E
  txns : U → List Byte → U × List E
  /-- What an observer of the unit sees of a port-level run. -/
  watch : Nat → State → State × List Byte × List E

namespace Framer

variable {U E : Type} (F : Framer U E)

/-- The unit after an edge, by the priority of R98. -/
def edge (p : PortIn) (u : U) : U :=
  if p.rst then F.reset
  else if F.evValid u && p.evtReady then F.ack u
  else if p.inValid && !F.evValid u then (F.txn u p.inData).1
  else F.recover u

/-- The byte the unit accepts at the next step (R100). -/
def accepted (s : State) : Option Byte :=
  let p := F.input (fetch s)
  if !p.rst && p.inValid && !F.evValid (F.unit s) then some p.inData else none

/-- The event the unit sets pending between two states. -/
def raised (s t : State) : Option E := if F.evValid (F.unit s) then none else F.pending (F.unit t)

/-- The unit `v` is `u`, or `u` after the acknowledge of the event pending in `u`. -/
def UpToAck (u v : U) : Prop := v = u ∨ F.evValid u = true ∧ v = F.ack u

/-- The rules that the functions of a unit obey. -/
structure Lawful : Prop where
  input_read : ∀ r a, F.input (.read r a) = idleIn
  input_idle : F.input (.edge idleIn idleIn) = idleIn
  /-- R98, and R104 for a read between edges. -/
  step_unit : ∀ {s t}, step s = .next t →
    F.unit t = if (fetch s).isEdge then F.edge (F.input (fetch s)) (F.unit s) else F.unit s
  inv_reset : F.Inv F.reset
  inv_edge : ∀ p {u}, F.Inv u → F.Inv (F.edge p u)
  /-- No unused code is reachable (R28). -/
  recover_of_inv : ∀ {u}, F.Inv u → F.recover u = u
  evValid_ack : ∀ u, F.evValid (F.ack u) = false
  ack_of_quiet : ∀ {u}, F.evValid u = false → F.ack u = u
  pending_of_quiet : ∀ {u}, F.evValid u = false → F.pending u = none
  /-- The event presented after a transaction is the one it emits (R102). -/
  pending_txn : ∀ {u} b, F.evValid u = false → F.pending (F.txn u b).1 = (F.txn u b).2
  txns_nil : ∀ u, F.txns u [] = (u, [])
  txns_singleton : ∀ u b, F.txns u [b] = ((F.txn (F.ack u) b).1, (F.txn (F.ack u) b).2.toList)
  txns_append : ∀ u bs cs, F.txns u (bs ++ cs) =
    ((F.txns (F.txns u bs).1 cs).1, (F.txns u bs).2 ++ (F.txns (F.txns u bs).1 cs).2)
  watch_zero : ∀ s, F.watch 0 s = (s, [], [])
  watch_succ : ∀ n {s t}, step s = .next t → F.watch (n + 1) s =
    ((F.watch n t).1, (F.accepted s).toList ++ (F.watch n t).2.1, (F.raised s t).toList ++ (F.watch n t).2.2)

/-! ### The argument -/

variable {F}

namespace Lawful

/-- An acknowledge makes up for the difference. -/
theorem ack_eq_of_upToAck (L : F.Lawful) {u v : U} (h : F.UpToAck u v) : F.ack v = F.ack u := by
  obtain rfl | ⟨-, rfl⟩ := h
  · rfl
  · exact L.ack_of_quiet (L.evValid_ack u)

theorem upToAck_trans (L : F.Lawful) {u v w : U} (huv : F.UpToAck u v) (hvw : F.UpToAck v w) : F.UpToAck u w := by
  obtain rfl | ⟨hev, rfl⟩ := hvw
  · exact huv
  · obtain rfl | ⟨-, rfl⟩ := huv
    · exact .inr ⟨hev, rfl⟩
    · simp [L.evValid_ack] at hev

/-- A step at which the unit accepts a byte is the transaction on that byte. -/
theorem step_of_accepted (L : F.Lawful) {s t : State} {b : Byte} (hb : F.accepted s = some b) (hstep : step s = .next t) :
    F.evValid (F.unit s) = false ∧ F.unit t = (F.txn (F.unit s) b).1 := by
  obtain ⟨⟨hrst, hin, hev⟩, rfl⟩ : ((F.input (fetch s)).rst = false ∧ (F.input (fetch s)).inValid = true ∧
      F.evValid (F.unit s) = false) ∧ (F.input (fetch s)).inData = b := by
    simpa [accepted, and_assoc] using hb
  have hedge : (fetch s).isEdge = true := by
    cases hf : fetch s with
    | edge p g => rfl
    | read r a => simp [hf, L.input_read, idleIn] at hin
  refine ⟨hev, ?_⟩
  rw [L.step_unit hstep, if_pos hedge, edge]
  simp [hrst, hin, hev]

/-- A step at which the unit accepts no byte and is not reset does at most an acknowledge. -/
theorem step_of_accepted_none (L : F.Lawful) {s t : State} (hinv : F.Inv (F.unit s))
    (hrst : (F.input (fetch s)).rst = false) (hnone : F.accepted s = none) (hstep : step s = .next t) :
    F.UpToAck (F.unit s) (F.unit t) := by
  have hnotTaken : ¬ ((F.input (fetch s)).inValid && !F.evValid (F.unit s)) = true := by
    simpa [accepted, hrst] using hnone
  rw [L.step_unit hstep]
  split
  case isFalse hread => exact .inl rfl
  simp only [edge, hrst, hnotTaken, Bool.false_eq_true, if_false]
  split
  case isTrue hack => exact .inr ⟨(Bool.and_eq_true_iff.1 hack).1, rfl⟩
  case isFalse => exact .inl (L.recover_of_inv hinv)

theorem inv_step (L : F.Lawful) {s t : State} (hinv : F.Inv (F.unit s)) (hstep : step s = .next t) :
    F.Inv (F.unit t) := by
  rw [L.step_unit hstep]
  split
  · exact L.inv_edge _ hinv
  · exact hinv

/-- R106 for one step: the transaction of the byte it accepts, if any, keeps up with the unit and emits what it raises. -/
theorem step_refines (L : F.Lawful) {u : U} {s t : State} (hinv : F.Inv (F.unit s)) (hlag : F.UpToAck u (F.unit s))
    (hrst : (F.input (fetch s)).rst = false) (hstep : step s = .next t) :
    (F.raised s t).toList = (F.txns u (F.accepted s).toList).2 ∧
    F.UpToAck (F.txns u (F.accepted s).toList).1 (F.unit t) := by
  cases hb : F.accepted s with
  | some b =>
    obtain ⟨hev, hunit⟩ := L.step_of_accepted hb hstep
    have hack : F.ack u = F.unit s := by rw [← L.ack_eq_of_upToAck hlag, L.ack_of_quiet hev]
    have hraised : F.raised s t = (F.txn (F.unit s) b).2 := by simp [raised, hev, hunit, L.pending_txn b hev]
    rw [Option.toList_some, L.txns_singleton, hack, hraised, hunit]
    exact ⟨rfl, .inl rfl⟩
  | none =>
    have hmove := L.step_of_accepted_none hinv hrst hb hstep
    have hraised : F.raised s t = none := by
      cases hev : F.evValid (F.unit s) with
      | true => simp [raised, hev]
      | false =>
        obtain hsame | ⟨hpending, -⟩ := hmove
        · simp [raised, hsame, L.pending_of_quiet hev]
        · simp [hev] at hpending
    rw [Option.toList_none, L.txns_nil, hraised]
    exact ⟨rfl, L.upToAck_trans hlag hmove⟩

/-- R106 for a run without reset, from any unit that is up to an acknowledge the transaction level's `u`. -/
theorem watch_refines (L : F.Lawful) (n : Nat) {u : U} {s : State} (hinv : F.Inv (F.unit s))
    (hlag : F.UpToAck u (F.unit s)) (hrst : ∀ a ∈ s.host.take n, (F.input a).rst = false) :
    (F.watch n s).2.2 = (F.txns u (F.watch n s).2.1).2 ∧
    F.UpToAck (F.txns u (F.watch n s).2.1).1 (F.unit (F.watch n s).1) := by
  induction n generalizing u s with
  | zero =>
    rw [L.watch_zero, L.txns_nil]
    exact ⟨rfl, hlag⟩
  | succ n ih =>
    have hidle : (F.input (.edge idleIn idleIn)).rst = false := by rw [L.input_idle]; rfl
    obtain ⟨hnow, hlater⟩ := fetch_of_take_succ (P := fun a => (F.input a).rst = false) hidle hrst
    obtain ⟨t, hstep⟩ := stepNeverStops s
    obtain ⟨hevent, hlag'⟩ := L.step_refines hinv hlag hnow hstep
    obtain ⟨hevents, hlast⟩ := ih (L.inv_step hinv hstep) hlag' (step_host hstep ▸ hlater)
    rw [L.watch_succ n hstep, L.txns_append]
    exact ⟨by rw [hevent, hevents], hlast⟩

/-- R106 from reset; one more accepted byte is one more transaction, before which the acknowledge has been made up for. -/
theorem run_refines (L : F.Lawful) (n : Nat) {s : State} (hreset : F.unit s = F.reset)
    (hrst : ∀ a ∈ s.host.take n, (F.input a).rst = false) :
    (F.watch n s).2.2 = (F.txns F.reset (F.watch n s).2.1).2 ∧
    F.UpToAck (F.txns F.reset (F.watch n s).2.1).1 (F.unit (F.watch n s).1) ∧
    ∀ b t, F.accepted (F.watch n s).1 = some b → step (F.watch n s).1 = .next t →
      F.unit t = (F.txns F.reset ((F.watch n s).2.1 ++ [b])).1 := by
  obtain ⟨hevents, hlag⟩ := L.watch_refines n (hreset ▸ L.inv_reset) (.inl hreset) hrst
  refine ⟨hevents, hlag, fun b t hb hstep => ?_⟩
  obtain ⟨hev, hunit⟩ := L.step_of_accepted hb hstep
  rw [hunit, L.txns_append, L.txns_singleton, ← L.ack_eq_of_upToAck hlag, L.ack_of_quiet hev]

end Lawful

end Framer

/-! ### The PF -/

/-- The PF presents after a transaction just the event that the transaction emits. -/
theorem pending_pfTxn (c : Params) {u : PfState} (b : Byte) (hev : u.evValid = false) :
    (pfTxn c u b).1.pending c = (pfTxn c u b).2 := by
  cases hst : u.st with
  | awaitEnd =>
    rw [pfTxn_awaitEnd c b hst]
    split
    · rfl
    · simp [PfState.pending, hev]
  | awaitChecksum =>
    rw [pfTxn_awaitChecksum c b hst]
    split
    · split <;> simp [PfState.pending, hev]
    · simp [PfState.pending, hev]
  | awaitStart => simp [pfTxn_awaitStart c b hst, PfState.pending, hev]
  | awaitCount => simp [pfTxn_awaitCount c b hst, PfState.pending, hev]
  | awaitPacketByte => simp [pfTxn_awaitPacketByte c b hst, PfState.pending, hev]
  | unused n => simp [pfTxn_unused c b hst, PfState.pending, hev]

/-- The PF of the hardware that `step` runs. -/
def pfFramer : Framer PfState Eom where
  unit := State.pf
  input := HostAct.pfIn
  Inv := PfInv params
  evValid := PfState.evValid
  pending := PfState.pending params
  reset := PfState.reset
  ack := PfState.ack
  recover := PfState.recover
  txn := pfTxn params
  txns := pfTxns params
  watch := watchPf

theorem pfFramer_lawful : pfFramer.Lawful where
  input_read _ _ := rfl
  input_idle := rfl
  step_unit hstep := (step_units hstep).1
  inv_reset := pfInv_reset params
  inv_edge p _ hinv := pfInv_pfEdge params_legal p hinv
  recover_of_inv {u} hinv := u.recover_of_used hinv.named
  evValid_ack := PfState.ack_evValid
  ack_of_quiet := pfAck_of_quiet
  pending_of_quiet hev := if_neg (ne_true_of_eq_false hev)
  pending_txn b hev := pending_pfTxn params b hev
  txns_nil := pfTxns_nil params
  txns_singleton _ _ := by simp [pfFramer, pfTxns]
  txns_append := pfTxns_append params
  watch_zero _ := rfl
  watch_succ n {s t} hstep := by simp only [pfFramer, watchPf, hstep]; rfl

/-- Settles O46: `Framer.Lawful.run_refines` for the PF. -/
theorem pfRunRefinesTransactions : Obligations.PfRunRefinesTransactions :=
  fun n _ hreset hrst => pfFramer_lawful.run_refines n hreset hrst

/-! ### The GF -/

/-- The GF presents after a transaction just the event that the transaction emits. -/
theorem pending_gfTxn (c : Params) {u : GfState} (b : Byte) (hev : u.evValid = false) :
    (gfTxn c u b).1.pending = (gfTxn c u b).2 := by
  cases hst : u.st with
  | awaitChecksum =>
    rw [gfTxn_awaitChecksum c b hst]
    split
    · split
      · simp [GfState.pending, hev]
      · rfl
    · simp [GfState.pending, hev]
  | awaitStart => simp [gfTxn_awaitStart c b hst, GfState.pending, hev]
  | awaitRangeCount => simp [gfTxn_awaitRangeCount c b hst, GfState.pending, hev]
  | awaitStartLow => simp [gfTxn_awaitStartLow c b hst, GfState.pending, hev]
  | awaitStartHigh => simp [gfTxn_awaitStartHigh c b hst, GfState.pending, hev]
  | awaitEndLow => simp [gfTxn_awaitEndLow c b hst, GfState.pending, hev]
  | awaitEndHigh => simp [gfTxn_awaitEndHigh c b hst, GfState.pending, hev]
  | awaitEnd => simp [gfTxn_awaitEnd c b hst, GfState.pending, hev]
  | terminal => simp [gfTxn_terminal c b hst, GfState.pending, hev]
  | unused n => simp [gfTxn_unused c b hst, gfRecover_of_unused hst, GfState.pending, hev]

/-- The GF of the hardware that `step` runs. -/
def gfFramer : Framer GfState Grp where
  unit := State.gf
  input := HostAct.gfIn
  Inv := GfInv params
  evValid := GfState.evValid
  pending := GfState.pending
  reset := GfState.reset
  ack := GfState.ack
  recover := GfState.recover
  txn := gfTxn params
  txns := gfTxns params
  watch := watchGf

theorem gfFramer_lawful : gfFramer.Lawful where
  input_read _ _ := rfl
  input_idle := rfl
  step_unit hstep := (step_units hstep).2
  inv_reset := gfInv_reset params
  inv_edge p _ hinv := gfInv_gfEdge params_legal p hinv
  recover_of_inv {u} hinv := u.recover_of_used hinv.named
  evValid_ack := GfState.ack_evValid
  ack_of_quiet := gfAck_of_quiet
  pending_of_quiet hev := if_neg (ne_true_of_eq_false hev)
  pending_txn b hev := pending_gfTxn params b hev
  txns_nil := gfTxns_nil params
  txns_singleton _ _ := by simp [gfFramer, gfTxns]
  txns_append := gfTxns_append params
  watch_zero _ := rfl
  watch_succ n {s t} hstep := by simp only [gfFramer, watchGf, hstep]; rfl

/-- Settles O47: `Framer.Lawful.run_refines` for the GF. -/
theorem gfRunRefinesTransactions : Obligations.GfRunRefinesTransactions :=
  fun n _ hreset hrst => gfFramer_lawful.run_refines n hreset hrst

end Sys2Proof.Proofs.Refinement
end

section
/-! PROOFS. The transitions that end a packet, a group or a message: the markers of the GF (42_group_framer R82, R94), the
checksum byte of the PF (41_packet_framer R75 to R77), and the completions, which alone raise an event (R78; 42_group_framer
R92, R93; 43_control R102). -/

namespace Sys2Proof.Proofs.Completions

open Sys2Proof.Config Sys2Proof.Machine Sys2Proof.Proofs.Encoding Sys2Proof.Proofs.PacketFramer
  Sys2Proof.Proofs.GroupFramer Sys2Proof.Proofs.Writers

/-- Settles O34: the completions are the listed writers that set an event pending. -/
theorem onlyCompletionsRaiseEvents : Obligations.OnlyCompletionsRaiseEvents := by
  intro i s t h
  exact ⟨(pfWritten_of_exec h).evSet, (gfWritten_of_exec h).evSet⟩

/-- Settles O5: the comparisons with acc and with the packets left are the conditions of the three rows. -/
theorem pfChecksumByte : Obligations.PfChecksumByte := by
  intro c s b hst hev
  refine ⟨fun hwrong => ⟨?_, rfl⟩, fun hmatch hmore => ⟨?_, rfl⟩, fun hmatch hlast => ⟨?_, rfl⟩⟩
  · exact decode_offer_of_selected rfl (pfRow_of_named hev hst rfl (decide_eq_true hwrong))
  · exact decode_offer_of_selected rfl (pfRow_of_named hev hst rfl (decide_eq_true ⟨hmatch, hmore⟩))
  · exact decode_offer_of_selected rfl (pfRow_of_named hev hst rfl (decide_eq_true ⟨hmatch, hlast⟩))

/-- Settles O7: each of the two rows asks for its marker and nothing more. -/
theorem gfMarkersMoveState : Obligations.GfMarkersMoveState := by
  intro c s hev
  refine ⟨fun hst => ⟨?_, rfl⟩, fun hst => ⟨?_, rfl⟩⟩
  · exact decode_offer_of_selected rfl (gfRow_of_named hev hst rfl rfl)
  · exact decode_offer_of_selected rfl (gfRow_of_named hev hst rfl rfl)

/-- The payload of an event starts at element 0 (43_control R102). -/
theorem slice_zero_eq_map_read {w : Nat} (m : Memory w) (len : Nat) : m.slice 0 len = (List.range len).map m.read := by
  simp only [Memory.slice, Nat.zero_add]

/-- R78, R102: the event of a PF that has just counted its last packet. -/
theorem pending_raiseEom (c : Params) (u : PfState) (st : PfSt) :
    (u.raiseEom.setSt st).pending c =
      some { payload := (List.range (u.n.toNat * c.bpp)).map u.pbuf.read, count := u.n } := by
  rw [← slice_zero_eq_map_read]
  rfl

/-- R92, R93, R102: the event of a GF that has just completed a group. -/
theorem pending_raiseGrp (u : GfState) (st : GfSt) :
    (u.raiseGrp.setSt st).pending =
      some { ranges := (List.range (2 * u.r.toNat)).map u.rbuf.read, count := u.r, groupIndex := u.grp } := by
  rw [← slice_zero_eq_map_read]
  rfl

/-- Settles O6: the row of the end marker applies, and its meaning is `raiseEom` with the move to AwaitStart. -/
theorem pfEndPresentsMessage : Obligations.PfEndPresentsMessage := by
  intro c s hst hev
  refine ⟨?_, _, rfl, rfl, pending_raiseEom params s.pf .awaitStart⟩
  exact decode_offer_of_selected rfl (pfRow_of_named hev hst rfl rfl)

/-- Settles O13: the comparison with G chooses between the two rows, whose meanings are both `raiseGrp`, with the move to
another state. -/
theorem gfGroupPresents : Obligations.GfGroupPresents := by
  intro c s b hst hev hmatch hlast
  refine ⟨fun hmore => ?_, fun hall => ?_, fun i st hi => ?_⟩
  · exact decode_offer_of_selected rfl (gfRow_of_named hev hst rfl (decide_eq_true ⟨hmatch, hlast, hmore⟩))
  · exact decode_offer_of_selected rfl (gfRow_of_named hev hst rfl (decide_eq_true ⟨hmatch, hlast, hall⟩))
  · obtain ⟨rfl, rfl⟩ | ⟨rfl, rfl⟩ : i = .gfChkGroupNext b ∧ st = .awaitRangeCount ∨
        i = .gfChkGroupLast b ∧ st = .awaitEnd := by simpa using hi
    · exact ⟨_, rfl, rfl, pending_raiseGrp s.gf .awaitRangeCount⟩
    · exact ⟨_, rfl, rfl, pending_raiseGrp s.gf .awaitEnd⟩

end Sys2Proof.Proofs.Completions
end

section
/-! PROOFS. The port operations and outputs (43_control R98 to R104), and a step as the performance of what its host action
selects. -/

namespace Sys2Proof.Proofs.Ports

open Sys2Proof.Config Sys2Proof.Machine Sys2Proof.Proofs.MemoryRules

/-! ### Reset, acknowledge and the handshake -/

/-- Settles O14: reset comes first in the priority of R98. -/
theorem resetUnit : Obligations.ResetUnit := by
  intro c s p hrst
  exact ⟨if_pos hrst, if_pos hrst, rfl, rfl⟩

/-- R98, R103: without reset, `evt_ready` takes a pending event of the PF. -/
theorem decodePf_ack (c : Params) {u : PfState} {p : PortIn} (hrst : p.rst = false) (hev : u.evValid = true)
    (hready : p.evtReady = true) : decodePf c u p = some (.evtAck .pf) := by
  simp [decodePf, hrst, hev, hready]

/-- R98, R103: without reset, `evt_ready` takes a pending event of the GF. -/
theorem decodeGf_ack (c : Params) {u : GfState} {p : PortIn} (hrst : p.rst = false) (hev : u.evValid = true)
    (hready : p.evtReady = true) : decodeGf c u p = some (.evtAck .gf) := by
  simp [decodeGf, hrst, hev, hready]

/-- R103: with no event pending the PF does not look at `evt_ready`. -/
theorem decodePf_evtReady_of_quiet (c : Params) {u : PfState} (hev : u.evValid = false) (p : PortIn) (ready : Bool) :
    decodePf c u { p with evtReady := ready } = decodePf c u p := by
  simp only [decodePf, hev, Bool.false_and]

/-- R103: with no event pending the GF does not look at `evt_ready`. -/
theorem decodeGf_evtReady_of_quiet (c : Params) {u : GfState} (hev : u.evValid = false) (p : PortIn) (ready : Bool) :
    decodeGf c u { p with evtReady := ready } = decodeGf c u p := by
  simp only [decodeGf, hev, Bool.false_and]

/-- Settles O15: the acknowledge comes next after reset in the priority of R98, and only with an event pending. -/
theorem acknowledgeClearsPending : Obligations.AcknowledgeClearsPending := by
  intro c s p hrst
  refine ⟨fun hev hready => ⟨decodePf_ack c hrst hev hready, rfl⟩, fun hev hready => ⟨decodeGf_ack c hrst hev hready, rfl⟩,
    fun hev => ?_, fun hev => ?_⟩
  · exact (decodePf_evtReady_of_quiet c hev p _).symm
  · exact (decodeGf_evtReady_of_quiet c hev p _).symm

/-- Settles O28: each output is the register it shows, and the free values are not shown while an event is pending. -/
theorem handshakeOutputs : Obligations.HandshakeOutputs := by
  intro s
  exact ⟨rfl, rfl, rfl, rfl, fun hev => if_pos hev, fun hev => ⟨if_pos hev, if_pos hev⟩⟩

/-! ### The read port -/

/-- Settles O16: a payload element that holds a value is what RD samples; at any address RD writes the sample alone. -/
theorem readPortGivesElement : Obligations.ReadPortGivesElement := by
  intro s a
  exact ⟨fun v hev ha hv => exec_rd_pf hev ha hv, fun v hev ha hv => exec_rd_gf hev ha hv, ⟨_, rfl⟩, ⟨_, rfl⟩⟩

/-! ### Selection and the step -/

/-- Settles O19: each input is evaluated in its state. -/
theorem writtenWordsDecode : Obligations.WrittenWordsDecode := by
  refine ⟨rfl, ?_, ?_, ?_, rfl, ?_, rfl⟩ <;> decide

/-- With no unused code to recover, moving past a host action touches the model's own fields alone. -/
theorem advance_of_used {s : State} (a : HostAct) (hpf : s.pf.st.used = true) (hgf : s.gf.st.used = true) :
    advance s a = { s with host := s.host.tail, tick := if a.isEdge then s.tick + 1 else s.tick } := by
  cases a with
  | edge p g =>
    rw [advance, recoverPf_of_used p s.pf hpf, recoverGf_of_used g s.gf hgf]
    rfl
  | read r a => rfl

/-- Settles O20: a step runs the decoded list from the state past the host action (`advance_of_used`), and a list of at most
two instructions is run by performing one after the other. -/
theorem stepRunsDecoded : Obligations.StepRunsDecoded := by
  intro s a rest hhost hpf hgf s'
  have hfetch : fetch s = a := by rw [fetch, hhost, List.headD_cons]
  have hadvance : advance s a = s' := by rw [advance_of_used a hpf hgf, hhost, List.tail_cons]
  rw [step, hfetch, hadvance]
  refine ⟨fun hd => ?_, fun i hd => ?_, fun i j t hd hi => ?_⟩
  · rw [hd, runInstrs_nil]
  · rw [hd, runInstrs_singleton]
  · rw [hd, runInstrs_cons_next hi, runInstrs_singleton]

end Sys2Proof.Proofs.Ports
end
